-- ==== Sys2Proof/Word.lean ====
section
/-! DEFINITION. The word types of the block: bit 0 is the least significant bit and every value is unsigned (00_scope R12). -/

namespace Sys2Proof

/-- The 16-bit data of a register access, `DATA_W` (00_scope R8). -/
abbrev Word := BitVec 16

/-- The value of an 8-bit register (20_memory R63). -/
abbrev Byte := BitVec 8

/-- A byte offset from the start of the block, `OFFSET_W` = 16 bits, all compared (20_memory R60, 30_encoding R85). -/
abbrev Offset := BitVec 16

/-- The canonical 34-bit operation word (30_encoding R81). -/
abbrev OpWord := BitVec 34

end Sys2Proof
end

