-- ==== Sys2Proof/Config.lean ====
section
/-! DEFINITION. The named constants of the block, gathered in one place (00_scope R8, 30_encoding R84, 93 U9), and the open
parameter that an operation reads (92_eei_decisions, "Open parameters in one place"). -/

namespace Sys2Proof.Config

/-! The twelve mapped offsets (20_memory R61). -/

abbrev offReload : Offset := 0x0000#16
abbrev offDataIn : Offset := 0x0002#16
abbrev offDataOut : Offset := 0x0003#16
abbrev offStatus1 : Offset := 0x0004#16
abbrev offStatus2 : Offset := 0x0006#16
abbrev offControl1 : Offset := 0x0008#16
abbrev offControl2 : Offset := 0x000a#16
abbrev offMessage1 : Offset := 0x000c#16
abbrev offMessage2 : Offset := 0x000d#16
abbrev offWatchdogCount : Offset := 0x000e#16
abbrev offSoftwareIrqGen : Offset := 0x0010#16
abbrev offTimerValue : Offset := 0x0012#16

/-- Every offset that has a register; all others are unmapped (20_memory R61, R62). -/
def mappedOffsets : List Offset :=
  [offReload, offDataIn, offDataOut, offStatus1, offStatus2, offControl1, offControl2,
   offMessage1, offMessage2, offWatchdogCount, offSoftwareIrqGen, offTimerValue]

/-! The masks and bits of 30_encoding R84. -/

/-- `RLD_MASK`: the bits of the counter that the expiry test looks at. -/
abbrev reloadMask : Word := 0x03ff#16
/-- `STS1_MASK`: write mask of Status1. -/
abbrev status1Mask : Word := 0xe870#16
/-- `STS2_MASK`: write mask of Status2. -/
abbrev status2Mask : Word := 0xfff8#16
/-- `CNT1_MASK`: write mask of Control1. -/
abbrev control1Mask : Word := 0xfeff#16
/-- `LOCK`: the one-way lock bit of Control1, as a mask. -/
abbrev lockMask : Word := 0x1000#16
/-- `LOCK_BIT` = 12. -/
abbrev lockBit : Nat := 12
/-- `HALT_BIT` = 11. -/
abbrev haltBit : Nat := 11
/-- `TIMEOUT_BIT` = bit 3. -/
abbrev timeoutMask : Word := 0x0008#16
/-- `SECOND_TO_BIT` = bit 1. -/
abbrev secondTimeoutMask : Word := 0x0002#16
/-- `BOOT_STS_BIT` = bit 2. -/
abbrev bootStatusMask : Word := 0x0004#16
/-- `SW_SMI_BIT` = bit 1 of Status1, shared with `SECOND_TO` (90_conflicts C4). -/
abbrev softwareSmiMask : Word := 0x0002#16
/-- `INT_STS_BIT` = bit 2 of Status1, shared with `BOOT_STS` (90_conflicts C4). -/
abbrev internalInterruptMask : Word := 0x0004#16
/-- `MIN_TIMER`: the smallest `timer_value` that can be armed. -/
abbrev minTimer : Word := 2#16
/-- `ESC_LIMIT`: consecutive timeouts that trigger the second-timeout path. -/
abbrev escalationLimit : BitVec 2 := 2#2

/-- The parameter of the block that the spec leaves open and an operation reads: `P_ESC_STS2` (00_scope R8, 92 D13).
`escSts2 = true` puts the second-timeout and boot-status bits into Status2. -/
structure Params where
  escSts2 : Bool
  deriving DecidableEq, Repr

/-- The spec's default, `P_ESC_STS2` = false: both bits in Status1, as the source says (90_conflicts C4). -/
def Params.default : Params := { escSts2 := false }

/-! The other open parameter, `TICK_INTERVAL` (92 D6, 93 U10), is read by no operation; the timed layer of 41 R148
(`Machine/Timed.lean`) takes it as an argument, as 00_scope R8 says (log 8). -/

end Sys2Proof.Config
end

