-- ==== Sys2Proof/Syntax.lean ====
section
/-! DEFINITION. The operations of the block, one constructor per row of `spec/opcode_table.json` (00_scope R10, R16; 30_encoding R80). -/

namespace Sys2Proof

/-- The 28 operations. A read of a mapped register has no operand beyond its offset, which the constructor names; a write carries the
16-bit `v`; the two fall-through rows carry the offset they matched (30_encoding R85), and `WR_UNMAPPED` also the data it ignores
(log 12); `TICK` carries the sampled `no_reboot` and `smi_en` (10_state R36). -/
inductive Instr where
  | rdRld
  | rdDin
  | rdDout
  | rdSts1
  | rdSts2
  | rdCnt1
  | rdCnt2
  | rdMsg1
  | rdMsg2
  | rdWdcnt
  | rdSwirq
  | rdTmr
  | rdUnmapped (off : Offset)
  | wrRld (v : Word)
  | wrDin (v : Word)
  | wrDout (v : Word)
  | wrSts1 (v : Word)
  | wrSts2 (v : Word)
  | wrCnt1 (v : Word)
  | wrCnt2 (v : Word)
  | wrMsg1 (v : Word)
  | wrMsg2 (v : Word)
  | wrWdcnt (v : Word)
  | wrSwirq (v : Word)
  | wrTmr (v : Word)
  | wrUnmapped (off : Offset) (v : Word)
  | tick (nr : Bool) (se : Bool)
  | init
  deriving DecidableEq, Repr

/-- The mnemonic of the operation's row in `spec/opcode_table.json` (00_scope R16). -/
def Instr.mnemonic : Instr → String
  | .rdRld => "RD_RLD"
  | .rdDin => "RD_DIN"
  | .rdDout => "RD_DOUT"
  | .rdSts1 => "RD_STS1"
  | .rdSts2 => "RD_STS2"
  | .rdCnt1 => "RD_CNT1"
  | .rdCnt2 => "RD_CNT2"
  | .rdMsg1 => "RD_MSG1"
  | .rdMsg2 => "RD_MSG2"
  | .rdWdcnt => "RD_WDCNT"
  | .rdSwirq => "RD_SWIRQ"
  | .rdTmr => "RD_TMR"
  | .rdUnmapped _ => "RD_UNMAPPED"
  | .wrRld _ => "WR_RLD"
  | .wrDin _ => "WR_DIN"
  | .wrDout _ => "WR_DOUT"
  | .wrSts1 _ => "WR_STS1"
  | .wrSts2 _ => "WR_STS2"
  | .wrCnt1 _ => "WR_CNT1"
  | .wrCnt2 _ => "WR_CNT2"
  | .wrMsg1 _ => "WR_MSG1"
  | .wrMsg2 _ => "WR_MSG2"
  | .wrWdcnt _ => "WR_WDCNT"
  | .wrSwirq _ => "WR_SWIRQ"
  | .wrTmr _ => "WR_TMR"
  | .wrUnmapped _ _ => "WR_UNMAPPED"
  | .tick _ _ => "TICK"
  | .init => "INIT"

/-- A bus read, `RD` (00_scope R10). -/
def Instr.isRead : Instr → Bool
  | .rdRld | .rdDin | .rdDout | .rdSts1 | .rdSts2 | .rdCnt1 | .rdCnt2
  | .rdMsg1 | .rdMsg2 | .rdWdcnt | .rdSwirq | .rdTmr | .rdUnmapped _ => true
  | .wrRld _ | .wrDin _ | .wrDout _ | .wrSts1 _ | .wrSts2 _ | .wrCnt1 _ | .wrCnt2 _
  | .wrMsg1 _ | .wrMsg2 _ | .wrWdcnt _ | .wrSwirq _ | .wrTmr _ | .wrUnmapped _ _
  | .tick _ _ | .init => false

/-- A `TICK` (00_scope R10). -/
def Instr.isTick : Instr → Bool
  | .tick _ _ => true
  | .rdRld | .rdDin | .rdDout | .rdSts1 | .rdSts2 | .rdCnt1 | .rdCnt2
  | .rdMsg1 | .rdMsg2 | .rdWdcnt | .rdSwirq | .rdTmr | .rdUnmapped _
  | .wrRld _ | .wrDin _ | .wrDout _ | .wrSts1 _ | .wrSts2 _ | .wrCnt1 _ | .wrCnt2 _
  | .wrMsg1 _ | .wrMsg2 _ | .wrWdcnt _ | .wrSwirq _ | .wrTmr _ | .wrUnmapped _ _ | .init => false

end Sys2Proof
end

