-- ==== Sys2Proof/WellFormed.lean ====
section
/-! DEFINITION. Which operation terms are instructions: a fall-through row holds an unmapped offset only (30_encoding R82, R85). -/

namespace Sys2Proof

/-- `RD_UNMAPPED` and `WR_UNMAPPED` match "a read or a write whose offset matched none of the twelve mapped offsets" (30_encoding R85);
every other operand of every operation may take every value of its width. -/
def Instr.wellFormed : Instr → Bool
  | .rdUnmapped off => !(Config.mappedOffsets.contains off)
  | .wrUnmapped off _ => !(Config.mappedOffsets.contains off)
  | .rdRld | .rdDin | .rdDout | .rdSts1 | .rdSts2 | .rdCnt1 | .rdCnt2
  | .rdMsg1 | .rdMsg2 | .rdWdcnt | .rdSwirq | .rdTmr => true
  | .wrRld _ | .wrDin _ | .wrDout _ | .wrSts1 _ | .wrSts2 _ | .wrCnt1 _ | .wrCnt2 _
  | .wrMsg1 _ | .wrMsg2 _ | .wrWdcnt _ | .wrSwirq _ | .wrTmr _ => true
  | .tick _ _ => true
  | .init => true

end Sys2Proof
end

