-- ==== Sys2Proof/Decode.lean ====
section
/-! DEFINITION. Decode and encode of the 34-bit operation word (30_encoding R81 to R86), and the opcode table as data. -/

namespace Sys2Proof

/-- The field `kind`, bits 33:32 (30_encoding R81). -/
def kindField (w : OpWord) : BitVec 2 := w.extractLsb' 32 2

/-- The field `off`, bits 31:16 (30_encoding R81). -/
def offField (w : OpWord) : Offset := w.extractLsb' 16 16

/-- The field `v`, bits 15:0 (30_encoding R81). -/
def valField (w : OpWord) : Word := w.extractLsb' 0 16

/-- The read operation of an offset: exact match with the twelve, else the fall-through row (30_encoding R82, R85). -/
def decodeRead (off : Offset) : Instr :=
  if off = Config.offReload then .rdRld
  else if off = Config.offDataIn then .rdDin
  else if off = Config.offDataOut then .rdDout
  else if off = Config.offStatus1 then .rdSts1
  else if off = Config.offStatus2 then .rdSts2
  else if off = Config.offControl1 then .rdCnt1
  else if off = Config.offControl2 then .rdCnt2
  else if off = Config.offMessage1 then .rdMsg1
  else if off = Config.offMessage2 then .rdMsg2
  else if off = Config.offWatchdogCount then .rdWdcnt
  else if off = Config.offSoftwareIrqGen then .rdSwirq
  else if off = Config.offTimerValue then .rdTmr
  else .rdUnmapped off

/-- The write operation of an offset, with the operand `v` (30_encoding R82, R85). -/
def decodeWrite (off : Offset) (v : Word) : Instr :=
  if off = Config.offReload then .wrRld v
  else if off = Config.offDataIn then .wrDin v
  else if off = Config.offDataOut then .wrDout v
  else if off = Config.offStatus1 then .wrSts1 v
  else if off = Config.offStatus2 then .wrSts2 v
  else if off = Config.offControl1 then .wrCnt1 v
  else if off = Config.offControl2 then .wrCnt2 v
  else if off = Config.offMessage1 then .wrMsg1 v
  else if off = Config.offMessage2 then .wrMsg2 v
  else if off = Config.offWatchdogCount then .wrWdcnt v
  else if off = Config.offSoftwareIrqGen then .wrSwirq v
  else if off = Config.offTimerValue then .wrTmr v
  else .wrUnmapped off v

/-- Decode of an operation word: "every 34-bit word selects exactly one operation, so decode is total" (30_encoding R85).
Bits the kind gives no meaning are ignored (30_encoding R86). -/
def decode (w : OpWord) : Instr :=
  if kindField w = 0#2 then decodeRead (offField w)
  else if kindField w = 1#2 then decodeWrite (offField w) (valField w)
  else if kindField w = 2#2 then .tick (w.getLsbD 1) (w.getLsbD 0)
  else .init

/-- Why a number is no operation. -/
inductive DecodeError where
  /-- The number does not fit the 34 bits of an operation word (30_encoding R81); raised by `decodeNat` only. Safe: no word of the
  spec is refused. -/
  | widerThanOperationWord
  deriving DecidableEq, Repr

/-- Decode of any number: one of 34 bits is an operation word, a larger one is rejected by name (log 11). -/
def decodeNat (w : Nat) : Except DecodeError Instr :=
  if w < 2 ^ 34 then .ok (decode (BitVec.ofNat 34 w)) else .error .widerThanOperationWord

/-- A word from its three fields (30_encoding R81). -/
def opWord (kind : BitVec 2) (off : Offset) (v : Word) : OpWord := kind ++ off ++ v

/-- The word of a read of `off`, format `R`: the low 16 bits are written as 0 (30_encoding R80, R86). -/
def readWord (off : Offset) : OpWord := opWord 0#2 off 0#16

/-- The word of a write of `v` to `off`, format `W` (30_encoding R80). -/
def writeWord (off : Offset) (v : Word) : OpWord := opWord 1#2 off v

/-- The word of a `TICK`, format `T`: bit 1 is `nr`, bit 0 is `se`, the rest is written as 0 (30_encoding R81, R86). -/
def tickWord (nr se : Bool) : OpWord :=
  opWord 2#2 0#16 ((BitVec.ofBool nr ++ BitVec.ofBool se).setWidth 16)

/-- The word of `INIT`, format `I` (30_encoding R81, R86). -/
def initWord : OpWord := opWord 3#2 0#16 0#16

/-- The canonical word of an operation (30_encoding R81, R82, R86). -/
def encode : Instr → OpWord
  | .rdRld => readWord Config.offReload
  | .rdDin => readWord Config.offDataIn
  | .rdDout => readWord Config.offDataOut
  | .rdSts1 => readWord Config.offStatus1
  | .rdSts2 => readWord Config.offStatus2
  | .rdCnt1 => readWord Config.offControl1
  | .rdCnt2 => readWord Config.offControl2
  | .rdMsg1 => readWord Config.offMessage1
  | .rdMsg2 => readWord Config.offMessage2
  | .rdWdcnt => readWord Config.offWatchdogCount
  | .rdSwirq => readWord Config.offSoftwareIrqGen
  | .rdTmr => readWord Config.offTimerValue
  | .rdUnmapped off => readWord off
  | .wrRld v => writeWord Config.offReload v
  | .wrDin v => writeWord Config.offDataIn v
  | .wrDout v => writeWord Config.offDataOut v
  | .wrSts1 v => writeWord Config.offStatus1 v
  | .wrSts2 v => writeWord Config.offStatus2 v
  | .wrCnt1 v => writeWord Config.offControl1 v
  | .wrCnt2 v => writeWord Config.offControl2 v
  | .wrMsg1 v => writeWord Config.offMessage1 v
  | .wrMsg2 v => writeWord Config.offMessage2 v
  | .wrWdcnt v => writeWord Config.offWatchdogCount v
  | .wrSwirq v => writeWord Config.offSoftwareIrqGen v
  | .wrTmr v => writeWord Config.offTimerValue v
  | .wrUnmapped off v => writeWord off v
  | .tick nr se => tickWord nr se
  | .init => initWord

/-- The operation the decoder reads from a table row's word; bits at `nbits` and above are 0. -/
def decodeTableWord (nbits w : Nat) : Option Instr :=
  match decodeNat (w % 2 ^ nbits) with
  | .ok i => some i
  | .error _ => none

/-! ## The opcode table as data -/

/-- One row of `spec/opcode_table.json`: a word belongs to it when its masked bits are the pattern. -/
structure Row where
  mnemonic : String
  pattern : OpWord
  mask : OpWord
  deriving DecidableEq, Repr

/-- The row matches the word (30_encoding R82). -/
def Row.matches (r : Row) (w : OpWord) : Bool := w &&& r.mask == r.pattern

/-- The twenty-four rows of mask 0x3FFFF0000, which a decoder tries first (30_encoding R82, R85). -/
def exactRows : List Row :=
  [⟨"RD_RLD", 0x000000000#34, 0x3FFFF0000#34⟩, ⟨"RD_DIN", 0x000020000#34, 0x3FFFF0000#34⟩,
   ⟨"RD_DOUT", 0x000030000#34, 0x3FFFF0000#34⟩, ⟨"RD_STS1", 0x000040000#34, 0x3FFFF0000#34⟩,
   ⟨"RD_STS2", 0x000060000#34, 0x3FFFF0000#34⟩, ⟨"RD_CNT1", 0x000080000#34, 0x3FFFF0000#34⟩,
   ⟨"RD_CNT2", 0x0000A0000#34, 0x3FFFF0000#34⟩, ⟨"RD_MSG1", 0x0000C0000#34, 0x3FFFF0000#34⟩,
   ⟨"RD_MSG2", 0x0000D0000#34, 0x3FFFF0000#34⟩, ⟨"RD_WDCNT", 0x0000E0000#34, 0x3FFFF0000#34⟩,
   ⟨"RD_SWIRQ", 0x000100000#34, 0x3FFFF0000#34⟩, ⟨"RD_TMR", 0x000120000#34, 0x3FFFF0000#34⟩] ++
  [⟨"WR_RLD", 0x100000000#34, 0x3FFFF0000#34⟩, ⟨"WR_DIN", 0x100020000#34, 0x3FFFF0000#34⟩,
   ⟨"WR_DOUT", 0x100030000#34, 0x3FFFF0000#34⟩, ⟨"WR_STS1", 0x100040000#34, 0x3FFFF0000#34⟩,
   ⟨"WR_STS2", 0x100060000#34, 0x3FFFF0000#34⟩, ⟨"WR_CNT1", 0x100080000#34, 0x3FFFF0000#34⟩,
   ⟨"WR_CNT2", 0x1000A0000#34, 0x3FFFF0000#34⟩, ⟨"WR_MSG1", 0x1000C0000#34, 0x3FFFF0000#34⟩,
   ⟨"WR_MSG2", 0x1000D0000#34, 0x3FFFF0000#34⟩, ⟨"WR_WDCNT", 0x1000E0000#34, 0x3FFFF0000#34⟩,
   ⟨"WR_SWIRQ", 0x100100000#34, 0x3FFFF0000#34⟩, ⟨"WR_TMR", 0x100120000#34, 0x3FFFF0000#34⟩]

/-- The four rows of mask 0x300000000, which a decoder tries last (30_encoding R82, R85). -/
def fallThroughRows : List Row :=
  [⟨"RD_UNMAPPED", 0x000000000#34, 0x300000000#34⟩, ⟨"WR_UNMAPPED", 0x100000000#34, 0x300000000#34⟩,
   ⟨"TICK", 0x200000000#34, 0x300000000#34⟩, ⟨"INIT", 0x300000000#34, 0x300000000#34⟩]

/-- The first row, in decode priority, that a word belongs to (30_encoding R85). -/
def firstRow (w : OpWord) : Option Row := (exactRows ++ fallThroughRows).find? (fun r => r.matches w)

end Sys2Proof
end

