-- ==== Sys2Proof/Machine/State.lean ====
section
/-! DEFINITION. The state of one block, as plain data: the fifteen variables of 10_state R20, and beside them what one step of the
model takes (the operations still to come, the open parameter) and yields (the read value, the events). -/

namespace Sys2Proof.Machine

/-- The three outward events, and no other (60_exceptions R181). -/
inductive Event where
  | smi
  | nmi
  | wdtReset
  deriving DecidableEq, Repr

/-- "The whole state of one block instance is the fifteen variables below" (10_state R20): twelve guest-visible registers, then the
three hidden variables. -/
structure Vars where
  /-- Reload, offset 0x00 (R21). -/
  reloadCounter : Word
  /-- DataIn, offset 0x02 (R22). -/
  dataIn : Byte
  /-- DataOut, offset 0x03 (R23). -/
  dataOut : Byte
  /-- Status1, offset 0x04 (R24). -/
  status1 : Word
  /-- Status2, offset 0x06 (R25). -/
  status2 : Word
  /-- Control1, offset 0x08 (R26). -/
  control1 : Word
  /-- Control2, offset 0x0a (R27). -/
  control2 : Word
  /-- Message1, offset 0x0c (R28). -/
  message1 : Byte
  /-- Message2, offset 0x0d (R29). -/
  message2 : Byte
  /-- WatchdogCount, offset 0x0e (R30). -/
  watchdogCount : Byte
  /-- SoftwareIRQGen, offset 0x10 (R31). -/
  irqSelect : Byte
  /-- TimerValue, offset 0x12 (R32). -/
  timerValue : Word
  /-- The consecutive-timeout counter, 2 bits (R33). -/
  n : BitVec 2
  /-- A tick has been asked for and has neither fired nor been cancelled (R34). -/
  tickPending : Bool
  /-- The block has emitted `WDT_RESET` since the last `INIT` (R35). -/
  resetLatched : Bool
  deriving DecidableEq, Repr

/-- The value of every variable after `INIT` (10_state R41). -/
def Vars.reset : Vars where
  reloadCounter := 0x0000#16
  dataIn := 0x00#8
  dataOut := 0x00#8
  status1 := 0x0000#16
  status2 := 0x0000#16
  control1 := 0x0000#16
  control2 := 0x0008#16
  message1 := 0x00#8
  message2 := 0x00#8
  watchdogCount := 0x00#8
  irqSelect := 0x03#8
  timerValue := 0x0004#16
  n := 0#2
  tickPending := false
  resetLatched := false

/-- What the latest step yields: "the read value if any, and the list of output events" (00_scope R10), and the two scheduling calls
of 00_scope R9 as the pulses of R11. The model's own fields, no state of the block (10_state R20; log 3, log 4). -/
structure Output where
  /-- The value a read returns; none for every other operation. -/
  readValue : Option Word
  /-- The events emitted, in order. -/
  events : List Event
  /-- The step set or renewed the tick request (`scheduleTickAfter`). -/
  tickReq : Bool
  /-- The step cleared a pending request other than by consuming the tick (`cancelScheduledTick`). -/
  tickCancel : Bool
  deriving DecidableEq, Repr

/-- The output of a step that reads nothing, emits nothing and leaves the tick request alone. -/
def Output.quiet : Output := { readValue := none, events := [], tickReq := false, tickCancel := false }

/-- One block and its agents' operations still to come. -/
structure State where
  /-- The fifteen variables (10_state R20). -/
  vars : Vars
  /-- The outputs of the latest step (00_scope R10). -/
  out : Output
  /-- The open parameter `P_ESC_STS2`; no operation writes it (00_scope R8, log 5). -/
  params : Config.Params
  /-- The operations the three agents will perform, in their one total order, oldest first (20_memory R68, log 1). -/
  inbox : List OpWord
  deriving DecidableEq, Repr

/-- The block right after `INIT` (10_state R41), with the spec's default parameter (00_scope R8), no operation presented and no
output. DESIGN CHOICE for the last two (log 1, log 3). -/
def State.reset : State where
  vars := Vars.reset
  out := Output.quiet
  params := Config.Params.default
  inbox := []

/-- Why a step stops with a fault: there is no reason. "A model needs no fault outcome for this block" (60_exceptions R180), so the
type has no constructor, and nothing raises one (log 13). -/
inductive Fault where
  deriving DecidableEq, Repr

/-- Why an operation has no meaning. -/
inductive Refusal where
  /-- Raised by an arm of `exec` whose operation is not modelled; no arm is. Safe: it would stop a run, never give it a result. -/
  | notModelled (mnemonic : String)
  deriving DecidableEq, Repr

end Sys2Proof.Machine
end

