-- ==== Sys2Proof/Machine/Flags.lean ====
section
/-! DEFINITION. The status flags the block itself sets, each by or (10_state R24, R25; 42 R161), and the two control bits it has. -/

namespace Sys2Proof.Machine

/-- `TIMEOUT`, Status1 bit 3: set at every timeout (42 R161). -/
def setTimeout (v : Vars) : Vars := { v with status1 := v.status1 ||| Config.timeoutMask }

/-- `SECOND_TO` and `BOOT_STS`, bits 1 and 2, "always as a pair" (42 R163): of Status2 when `P_ESC_STS2`, else of Status1
(42 R161, 92 D13). -/
def setSecondTimeout (p : Config.Params) (v : Vars) : Vars :=
  if p.escSts2 then { v with status2 := v.status2 ||| (Config.secondTimeoutMask ||| Config.bootStatusMask) }
  else { v with status1 := v.status1 ||| (Config.secondTimeoutMask ||| Config.bootStatusMask) }

/-- `SW_SMI`, Status1 bit 1: set by a DataIn write (40 R116). -/
def setSoftwareSmi (v : Vars) : Vars := { v with status1 := v.status1 ||| Config.softwareSmiMask }

/-- `INT_STS`, Status1 bit 2: set by a DataOut write (40 R117). -/
def setInternalInterrupt (v : Vars) : Vars := { v with status1 := v.status1 ||| Config.internalInterruptMask }

/-- `HALT`, `control1[11]` (10_state R26). -/
def halted (v : Vars) : Bool := v.control1.getLsbD Config.haltBit

/-- `LOCK`, `control1[12]` (10_state R26). -/
def locked (v : Vars) : Bool := v.control1.getLsbD Config.lockBit

end Sys2Proof.Machine
end

