-- ==== Sys2Proof/Machine/Operands.lean ====
section
/-! DEFINITION. How an operand reaches a register and a register reaches a read value (30_encoding R83, 20_memory R63). -/

namespace Sys2Proof.Machine

/-- `zext_16(b)`: a read of an 8-bit register (00_scope R12, 20_memory R63). -/
def zext16 (b : Byte) : Word := b.setWidth 16

/-- `v[7:0]`: a write of an 8-bit register; `v[15:8]` is dropped (00_scope R12, 20_memory R63). -/
def lowByte (v : Word) : Byte := v.extractLsb' 0 8

/-- What `WR_STS1` stores: `v & 0xe870` (40 R118). -/
def status1Operand (v : Word) : Word := v &&& Config.status1Mask

/-- What `WR_STS2` stores: `v & 0xfff8` (40 R119). -/
def status2Operand (v : Word) : Word := v &&& Config.status2Mask

/-- What `WR_CNT1` stores: `(v & 0xfeff) | (control1 & 0x1000)`, with `old` the value before the write (40 R120). -/
def control1Operand (v old : Word) : Word := (v &&& Config.control1Mask) ||| (old &&& Config.lockMask)

end Sys2Proof.Machine
end

