-- ==== Sys2Proof/Machine/Ops.lean ====
section
/-! DEFINITION. The shared operations: the outputs of a step, the tick request, arming (41 R140 to R142), the countdown's pieces
(41 R144), the escalation policy (42 R161), initialisation, and taking the next operation. -/

namespace Sys2Proof.Machine

/-! ## Outputs of a step (00_scope R10, R13) -/

/-- An operation begins with nothing read and nothing emitted (00_scope R10). -/
def begin (s : State) : State := { s with out := Output.quiet }

/-- `emit E`: appends the event to the operation's output list (00_scope R13). -/
def emit (e : Event) (s : State) : State := { s with out := { s.out with events := s.out.events ++ [e] } }

/-- `result <- w`: the value a read returns (40 R100). -/
def respond (w : Word) (s : State) : State := { s with out := { s.out with readValue := some w } }

/-- A new value of the fifteen variables. -/
def setVars (v : Vars) (s : State) : State := { s with vars := v }

/-! ## The tick request (00_scope R9, R10, R11; 10_state R34) -/

/-- `scheduleTickAfter`: a tick is asked for; a pending one is replaced, not added to (41 R141). -/
def requestTick (s : State) : State :=
  { s with vars := { s.vars with tickPending := true }, out := { s.out with tickReq := true } }

/-- `cancelScheduledTick`: idempotent; a call with no tick pending shows nothing (41 R142; log 4). -/
def cancelTick (s : State) : State :=
  { s with vars := { s.vars with tickPending := false },
           out := { s.out with tickCancel := s.out.tickCancel || s.vars.tickPending } }

/-- The one-shot is consumed by the tick that fires (41 R144). -/
def consumeTick (s : State) : State := { s with vars := { s.vars with tickPending := false } }

/-! ## Arming (41 R140 to R142) -/

/-- `Armable()`: `HALT` clear and the full 16-bit `timer_value` above 1, unsigned (41 R140). -/
def armable (v : Vars) : Bool := !halted v && decide (Config.minTimer ≤ v.timerValue)

/-- `reload_counter <- timer_value` (41 R141, R146). -/
def reloadFromTimer (s : State) : State := setVars { s.vars with reloadCounter := s.vars.timerValue } s

/-- `Arm()`: the counter is loaded; a tick is asked for unless the block is latched (41 R141). -/
def arm (s : State) : State :=
  if s.vars.resetLatched then reloadFromTimer s else requestTick (reloadFromTimer s)

/-- `n <- 0` (42 R167). -/
def clearTimeoutCount (s : State) : State := setVars { s.vars with n := 0#2 } s

/-- `Disarm()`: the pending tick is cancelled and `n` cleared; the counter keeps its value (41 R142). -/
def disarm (s : State) : State := clearTimeoutCount (cancelTick s)

/-! ## The escalation policy (42 R161) -/

/-- The interrupt of the interrupt path: SMI if `smi_en` = 1, else NMI (42 R161, R166). -/
def deliverInterrupt (se : Bool) (s : State) : State := if se then emit .smi s else emit .nmi s

/-- The `WDT_RESET` path: the event, no tick pending any more, and the latch (42 R161, R164). The tick was consumed before, so nothing
is cancelled (log 4). -/
def requestReset (s : State) : State :=
  setVars { s.vars with tickPending := false, resetLatched := true } (emit .wdtReset s)

/-- The first two lines of `Escalate`: `TIMEOUT` set and `n <- n + 1` (42 R161). -/
def countTimeout (s : State) : State := setVars { setTimeout s.vars with n := s.vars.n + 1#2 } s

/-- The status part of a second consecutive timeout: the pair of flags set and `n <- 0` (42 R163). -/
def markSecondTimeout (s : State) : State := setVars { setSecondTimeout s.params s.vars with n := 0#2 } s

/-- `Escalate(nr, se)`: the counterpart of a processor's exception entry, status first, event after (42 R161, 60 R189). -/
def escalate (nr se : Bool) (s : State) : State :=
  if (countTimeout s).vars.n = Config.escalationLimit then
    if nr then deliverInterrupt se (markSecondTimeout (countTimeout s))
    else requestReset (markSecondTimeout (countTimeout s))
  else deliverInterrupt se (countTimeout s)

/-! ## The countdown (41 R144) -/

/-- `reload_counter <- reload_counter -16 1`, modulo 65536 (41 R149). -/
def decrement (s : State) : State := setVars { s.vars with reloadCounter := s.vars.reloadCounter - 1#16 } s

/-- The expiry test on a decremented counter: its low 10 bits are 0 (41 R145). -/
def expired (c : Word) : Bool := c &&& Config.reloadMask == 0#16

/-- Step 4 of the tick: unless `Escalate` latched, the counter is reloaded, with no armable test, and a tick is asked for
(41 R144, R146). -/
def reloadAfterTimeout (s : State) : State :=
  if s.vars.resetLatched then s else requestTick (reloadFromTimer s)

/-- The body of `TICK` once the one-shot has fired (41 R144). -/
def countDown (nr se : Bool) (s : State) : State :=
  let t := decrement (consumeTick s)
  if expired t.vars.reloadCounter then reloadAfterTimeout (escalate nr se t) else requestTick t

/-! ## Initialisation (70 R210) -/

/-- Every variable takes its reset value; the outstanding request is cancelled (70 R210 (a)); nothing is emitted. -/
def initialise (s : State) : State := setVars Vars.reset (cancelTick s)

/-! ## Taking the next operation (20_memory R68, log 1, log 2) -/

/-- The oldest operation presented, decoded, and the state with it taken out of the inbox; none when the agents ask for nothing. -/
def fetch (s : State) : Option (Instr × State) :=
  match s.inbox with
  | [] => none
  | w :: rest => some (decode w, { s with inbox := rest })

/-- A step in which no agent asks for anything: "the block itself never starts a step on its own" (00_scope R6). Nothing is read and
nothing emitted (log 2). -/
def idle (s : State) : State := begin s

/-- A word put where the next step takes its operation. -/
def present (w : OpWord) (s : State) : State := { s with inbox := w :: s.inbox }

end Sys2Proof.Machine
end

