-- ==== Sys2Proof/Machine/Countdown.lean ====
section
/-! DEFINITION. The tick (41 R143, R144). -/

namespace Sys2Proof.Machine

/-- `TICK nr se`: a tick presented while none is pending changes nothing (41 R143); else the countdown (41 R144). -/
def execTick (nr se : Bool) (s : State) : Host.Outcome State Fault Refusal :=
  .next (if s.vars.tickPending then countDown nr se (begin s) else begin s)

end Sys2Proof.Machine
end

