-- ==== Sys2Proof/Machine/Initialisation.lean ====
section
/-! DEFINITION. Initialisation (70 R210). -/

namespace Sys2Proof.Machine

/-- `INIT`: every variable to its reset value, no event (70 R210). -/
def execInit (s : State) : Host.Outcome State Fault Refusal := .next (initialise (begin s))

end Sys2Proof.Machine
end

