-- ==== Sys2Proof/Machine/RegisterRead.lean ====
section
/-! DEFINITION. The thirteen read operations (40 R100 to R113): a value and nothing else. -/

namespace Sys2Proof.Machine

/-- The outcome of a read that returns `w`: no variable changes and no event is emitted (40 R100). -/
def answerRead (w : Word) (s : State) : Host.Outcome State Fault Refusal := .next (respond w (begin s))

/-- `RD_RLD` (40 R101). -/
def execRdRld (s : State) : Host.Outcome State Fault Refusal := answerRead s.vars.reloadCounter s

/-- `RD_DIN` (40 R102). -/
def execRdDin (s : State) : Host.Outcome State Fault Refusal := answerRead (zext16 s.vars.dataIn) s

/-- `RD_DOUT` (40 R103). -/
def execRdDout (s : State) : Host.Outcome State Fault Refusal := answerRead (zext16 s.vars.dataOut) s

/-- `RD_STS1` (40 R104). -/
def execRdSts1 (s : State) : Host.Outcome State Fault Refusal := answerRead s.vars.status1 s

/-- `RD_STS2` (40 R105). -/
def execRdSts2 (s : State) : Host.Outcome State Fault Refusal := answerRead s.vars.status2 s

/-- `RD_CNT1` (40 R106). -/
def execRdCnt1 (s : State) : Host.Outcome State Fault Refusal := answerRead s.vars.control1 s

/-- `RD_CNT2` (40 R107). -/
def execRdCnt2 (s : State) : Host.Outcome State Fault Refusal := answerRead s.vars.control2 s

/-- `RD_MSG1` (40 R108). -/
def execRdMsg1 (s : State) : Host.Outcome State Fault Refusal := answerRead (zext16 s.vars.message1) s

/-- `RD_MSG2` (40 R109). -/
def execRdMsg2 (s : State) : Host.Outcome State Fault Refusal := answerRead (zext16 s.vars.message2) s

/-- `RD_WDCNT` (40 R110). -/
def execRdWdcnt (s : State) : Host.Outcome State Fault Refusal := answerRead (zext16 s.vars.watchdogCount) s

/-- `RD_SWIRQ` (40 R111). -/
def execRdSwirq (s : State) : Host.Outcome State Fault Refusal := answerRead (zext16 s.vars.irqSelect) s

/-- `RD_TMR` (40 R112). -/
def execRdTmr (s : State) : Host.Outcome State Fault Refusal := answerRead s.vars.timerValue s

/-- `RD_UNMAPPED`: 0x0000 at every unmapped offset, no error (40 R113, 20_memory R62). -/
def execRdUnmapped (s : State) : Host.Outcome State Fault Refusal := answerRead 0x0000#16 s

end Sys2Proof.Machine
end

