-- ==== Sys2Proof/Machine/RegisterWrite.lean ====
section
/-! DEFINITION. The thirteen write operations (40 R114 to R127). -/

namespace Sys2Proof.Machine

/-- `WR_RLD`: `n` cleared in every case; the counter forced to `timer_value` and a tick asked for when armable, else the operand stored
and the tick request left as it is (40 R115). -/
def execWrRld (v : Word) (s : State) : Host.Outcome State Fault Refusal :=
  let t := clearTimeoutCount (begin s)
  .next (if armable t.vars then arm t else setVars { t.vars with reloadCounter := v } t)

/-- `WR_DIN`: the byte stored, `SW_SMI` set, `SMI` emitted unconditionally (40 R116). -/
def execWrDin (v : Word) (s : State) : Host.Outcome State Fault Refusal :=
  .next (emit .smi (setVars (setSoftwareSmi { s.vars with dataIn := lowByte v }) (begin s)))

/-- `WR_DOUT`: the byte stored, `INT_STS` set, no event (40 R117, 60 R185). -/
def execWrDout (v : Word) (s : State) : Host.Outcome State Fault Refusal :=
  .next (setVars (setInternalInterrupt { s.vars with dataOut := lowByte v }) (begin s))

/-- `WR_STS1`: masked assignment; the old value plays no part (40 R118). -/
def execWrSts1 (v : Word) (s : State) : Host.Outcome State Fault Refusal :=
  .next (setVars { s.vars with status1 := status1Operand v } (begin s))

/-- `WR_STS2`: masked assignment (40 R119). -/
def execWrSts2 (v : Word) (s : State) : Host.Outcome State Fault Refusal :=
  .next (setVars { s.vars with status2 := status2Operand v } (begin s))

/-- `WR_CNT1`: the masked operand with a set `LOCK` kept; then armed or disarmed by the state after the write (40 R120, 92 D11). -/
def execWrCnt1 (v : Word) (s : State) : Host.Outcome State Fault Refusal :=
  let t := setVars { s.vars with control1 := control1Operand v s.vars.control1 } (begin s)
  .next (if armable t.vars then arm t else disarm t)

/-- `WR_CNT2`: stored verbatim (40 R121). -/
def execWrCnt2 (v : Word) (s : State) : Host.Outcome State Fault Refusal :=
  .next (setVars { s.vars with control2 := v } (begin s))

/-- `WR_MSG1`: the low byte stored (40 R122). -/
def execWrMsg1 (v : Word) (s : State) : Host.Outcome State Fault Refusal :=
  .next (setVars { s.vars with message1 := lowByte v } (begin s))

/-- `WR_MSG2`: the low byte stored (40 R123). -/
def execWrMsg2 (v : Word) (s : State) : Host.Outcome State Fault Refusal :=
  .next (setVars { s.vars with message2 := lowByte v } (begin s))

/-- `WR_WDCNT`: the low byte stored; the block never counts in it (40 R124). -/
def execWrWdcnt (v : Word) (s : State) : Host.Outcome State Fault Refusal :=
  .next (setVars { s.vars with watchdogCount := lowByte v } (begin s))

/-- `WR_SWIRQ`: the low byte stored; no interrupt (40 R125). -/
def execWrSwirq (v : Word) (s : State) : Host.Outcome State Fault Refusal :=
  .next (setVars { s.vars with irqSelect := lowByte v } (begin s))

/-- `WR_TMR`: stored verbatim; neither arms nor disarms (40 R126). -/
def execWrTmr (v : Word) (s : State) : Host.Outcome State Fault Refusal :=
  .next (setVars { s.vars with timerValue := v } (begin s))

/-- `WR_UNMAPPED`: no effect, no error (40 R127). -/
def execWrUnmapped (s : State) : Host.Outcome State Fault Refusal := .next (begin s)

end Sys2Proof.Machine
end

