-- ==== Sys2Proof/Machine/Dispatch.lean ====
section
/-! DEFINITION. One operation performed: one arm per constructor, each one direct call of its meaning. -/

namespace Sys2Proof.Machine

def exec (i : Instr) (s : State) : Host.Outcome State Fault Refusal :=
  match i with
  | .rdRld => Sys2Proof.Machine.execRdRld s
  | .rdDin => Sys2Proof.Machine.execRdDin s
  | .rdDout => Sys2Proof.Machine.execRdDout s
  | .rdSts1 => Sys2Proof.Machine.execRdSts1 s
  | .rdSts2 => Sys2Proof.Machine.execRdSts2 s
  | .rdCnt1 => Sys2Proof.Machine.execRdCnt1 s
  | .rdCnt2 => Sys2Proof.Machine.execRdCnt2 s
  | .rdMsg1 => Sys2Proof.Machine.execRdMsg1 s
  | .rdMsg2 => Sys2Proof.Machine.execRdMsg2 s
  | .rdWdcnt => Sys2Proof.Machine.execRdWdcnt s
  | .rdSwirq => Sys2Proof.Machine.execRdSwirq s
  | .rdTmr => Sys2Proof.Machine.execRdTmr s
  | .rdUnmapped _ => Sys2Proof.Machine.execRdUnmapped s
  | .wrRld v => Sys2Proof.Machine.execWrRld v s
  | .wrDin v => Sys2Proof.Machine.execWrDin v s
  | .wrDout v => Sys2Proof.Machine.execWrDout v s
  | .wrSts1 v => Sys2Proof.Machine.execWrSts1 v s
  | .wrSts2 v => Sys2Proof.Machine.execWrSts2 v s
  | .wrCnt1 v => Sys2Proof.Machine.execWrCnt1 v s
  | .wrCnt2 v => Sys2Proof.Machine.execWrCnt2 v s
  | .wrMsg1 v => Sys2Proof.Machine.execWrMsg1 v s
  | .wrMsg2 v => Sys2Proof.Machine.execWrMsg2 v s
  | .wrWdcnt v => Sys2Proof.Machine.execWrWdcnt v s
  | .wrSwirq v => Sys2Proof.Machine.execWrSwirq v s
  | .wrTmr v => Sys2Proof.Machine.execWrTmr v s
  | .wrUnmapped _ _ => Sys2Proof.Machine.execWrUnmapped s
  | .tick nr se => Sys2Proof.Machine.execTick nr se s
  | .init => Sys2Proof.Machine.execInit s

end Sys2Proof.Machine
end

