-- ==== Sys2Proof/Machine/Step.lean ====
section
/-! DEFINITION. One step: the oldest operation presented is performed whole and atomically (20_memory R67, R68). -/

namespace Sys2Proof.Machine

/-- One step of the block. -/
def step (s : State) : Host.Outcome State Fault Refusal :=
  match fetch s with
  | none => .next (idle s)
  | some (i, t) => exec i t

/-- The operation word `w` presented as the next operation (log 1). A number wider than an operation word is no operation and nothing
is presented (log 11). -/
def State.withFetchWord (s : State) (nbits w : Nat) : State :=
  if w % 2 ^ nbits < 2 ^ 34 then present (BitVec.ofNat 34 (w % 2 ^ nbits)) s else s

end Sys2Proof.Machine
end

