-- ==== Sys2Proof/Machine/Bus.lean ====
section
/-! DEFINITION. The two primitives of the register space, by offset (40 R100, R114), and the pseudo-operations of the trace syntax
(30_encoding R89). -/

namespace Sys2Proof.Machine

/-- `RegRead(off)` (40 R100). -/
def regRead (off : Offset) (v : Vars) : Word :=
  if off = Config.offReload then v.reloadCounter
  else if off = Config.offDataIn then zext16 v.dataIn
  else if off = Config.offDataOut then zext16 v.dataOut
  else if off = Config.offStatus1 then v.status1
  else if off = Config.offStatus2 then v.status2
  else if off = Config.offControl1 then v.control1
  else if off = Config.offControl2 then v.control2
  else if off = Config.offMessage1 then zext16 v.message1
  else if off = Config.offMessage2 then zext16 v.message2
  else if off = Config.offWatchdogCount then zext16 v.watchdogCount
  else if off = Config.offSoftwareIrqGen then zext16 v.irqSelect
  else if off = Config.offTimerValue then v.timerValue
  else 0x0000#16

/-- `RegWrite(off, v)`: "selects by `off` exactly one of the rules R115 to R127 and performs it atomically" (40 R114). -/
def regWrite (off : Offset) (v : Word) (s : State) : Host.Outcome State Fault Refusal :=
  if off = Config.offReload then execWrRld v s
  else if off = Config.offDataIn then execWrDin v s
  else if off = Config.offDataOut then execWrDout v s
  else if off = Config.offStatus1 then execWrSts1 v s
  else if off = Config.offStatus2 then execWrSts2 v s
  else if off = Config.offControl1 then execWrCnt1 v s
  else if off = Config.offControl2 then execWrCnt2 v s
  else if off = Config.offMessage1 then execWrMsg1 v s
  else if off = Config.offMessage2 then execWrMsg2 v s
  else if off = Config.offWatchdogCount then execWrWdcnt v s
  else if off = Config.offSoftwareIrqGen then execWrSwirq v s
  else if off = Config.offTimerValue then execWrTmr v s
  else execWrUnmapped s

/-! ## Pseudo-operations (30_encoding R89) -/

/-- `KICK` = `WR 0x00, 0x0001`. -/
def kick : Instr := .wrRld 0x0001#16

/-- `TICKS k nr=a se=b`: `k` times `TICK nr=a se=b`. -/
def ticks (k : Nat) (nr se : Bool) : List Instr := List.replicate k (.tick nr se)

/-- `CLR1` = `WR 0x04, 0x0000`. -/
def clearStatus1 : Instr := .wrSts1 0x0000#16

/-- `CLR2` = `WR 0x06, 0x0000`. -/
def clearStatus2 : Instr := .wrSts2 0x0000#16

/-- `STOP` = `WR 0x08, 0x0800`. -/
def stop : Instr := .wrCnt1 0x0800#16

/-- `GO` = `WR 0x08, 0x0000`. -/
def go : Instr := .wrCnt1 0x0000#16

/-- `SETTMR t` = `WR 0x12, t`. -/
def setTimer (t : Word) : Instr := .wrTmr t

end Sys2Proof.Machine
end

