-- ==== Sys2Proof/Machine/Run.lean ====
section
/-! DEFINITION. A sequence of operations performed one after the other (20_memory R68): the state it leaves and the outputs it yields.
A fault or a refusal would end it; no operation has one (60 R180). -/

namespace Sys2Proof.Machine

/-- The state after a sequence of operations. -/
def runState : List Instr → State → State
  | [], s => s
  | i :: rest, s =>
    match exec i s with
    | .next t => runState rest t
    | .fault _ => s
    | .refused _ => s

/-- The output of each operation of a sequence, in order. -/
def runOutputs : List Instr → State → List Output
  | [], _ => []
  | i :: rest, s =>
    match exec i s with
    | .next t => t.out :: runOutputs rest t
    | .fault _ => []
    | .refused _ => []

/-- The events of a sequence, "in the order of the operations that emit them" (20_memory R68). -/
def runEvents (ops : List Instr) (s : State) : List Event := (runOutputs ops s).flatMap (fun o => o.events)

end Sys2Proof.Machine
end

