-- ==== Sys2Proof/Machine/Pins.lean ====
section
/-! DEFINITION. The pin-level rendering of 00_scope R11: one clock cycle performs the operations its inputs ask for, in some order.
Not normative (92 D2); it runs the same `exec` (log 10). -/

namespace Sys2Proof.Machine

/-- The inputs of one cycle (00_scope R11). -/
structure PinInputs where
  rst : Bool
  sel : Bool
  wr : Bool
  off : Offset
  wdata : Word
  tickFire : Bool
  noReboot : Bool
  smiEn : Bool
  deriving DecidableEq, Repr

/-- The outputs of one cycle (00_scope R11). A pulsed wire is given by how many one-cycle pulses the cycle's operations raise on it:
"one per emitted event", and one for each step that sets, renews or clears the tick request, so an access and a tick of one cycle that
both emit `SMI` raise two (log 10). -/
structure PinOutputs where
  /-- The value read, in the cycle of an `RD` only. -/
  rdata : Option Word
  /-- Pulses of `smi`. -/
  smi : Nat
  /-- Pulses of `nmi`. -/
  nmi : Nat
  /-- Pulses of `wdt_reset`. -/
  wdtReset : Nat
  /-- Pulses of `tick_req`. -/
  tickReq : Nat
  /-- Pulses of `tick_cancel`. -/
  tickCancel : Nat
  deriving DecidableEq, Repr

/-- The order the spec leaves open (00_scope R11, 60 R188, 92 D14): which of an access and a tick of the same cycle goes first, and
whether a cycle with `rst` performs them before its `INIT` or not at all. An argument of the cycle, so both are behaviours (log 10). -/
structure PinOrder where
  tickFirst : Bool
  beforeReset : Bool
  deriving DecidableEq, Repr

/-- The access a cycle asks for: `WR` if `wr` = 1, else `RD` (00_scope R11). -/
def pinAccess (p : PinInputs) : List Instr :=
  if p.sel then [decode (if p.wr then writeWord p.off p.wdata else readWord p.off)] else []

/-- The tick a cycle asks for (00_scope R11). DESIGN CHOICE: whether `tick_fire` tests `tick_pending` at the start of the cycle or after
a coinciding access is left open; here the `TICK` itself tests it (41 R143), at its own place in the cycle's order (log 10). -/
def pinTick (p : PinInputs) : List Instr := if p.tickFire then [.tick p.noReboot p.smiEn] else []

/-- The operations of one cycle, in order; `INIT` is last (60 R188). DESIGN CHOICE: with the access first, a `tick_fire` finds
`tick_pending` as the access leaves it, so an access that arms lets a `tick_fire` of its own cycle count a tick (log 10). -/
def cycleOps (o : PinOrder) (p : PinInputs) : List Instr :=
  let both := if o.tickFirst then pinTick p ++ pinAccess p else pinAccess p ++ pinTick p
  if p.rst then (if o.beforeReset then both ++ [.init] else [.init]) else both

/-- How often the outputs of a sequence of operations list the event: one pulse for each (00_scope R11, R13). -/
def eventPulses (e : Event) (outs : List Output) : Nat := (outs.flatMap (fun o => o.events)).count e

/-- The wires that show the outputs of a cycle's operations, one pulse for each event and each scheduling step (00_scope R11, log 10). -/
def pinOutputs (outs : List Output) : PinOutputs where
  rdata := outs.findSome? (fun o => o.readValue)
  smi := eventPulses .smi outs
  nmi := eventPulses .nmi outs
  wdtReset := eventPulses .wdtReset outs
  tickReq := outs.countP (fun o => o.tickReq)
  tickCancel := outs.countP (fun o => o.tickCancel)

/-- One clock cycle: the state after it and the wires during it. -/
def cycle (o : PinOrder) (p : PinInputs) (s : State) : State × PinOutputs :=
  (runState (cycleOps o p) s, pinOutputs (runOutputs (cycleOps o p) s))

end Sys2Proof.Machine
end

