-- ==== Sys2Proof/Machine/Timed.lean ====
section
/-! DEFINITION. The timed refinement of the block (41 R148, 70 R226): "in place of the bit `tick_pending`, an optional deadline
`now + TICK_INTERVAL`". It runs the same `exec`; time is counted in whole units, and
`TICK_INTERVAL` is the argument `interval` (00_scope R8; log 8, log 9). -/

namespace Sys2Proof.Machine

/-- A block with a clock beside it. -/
structure TimedState where
  /-- The block. -/
  block : State
  /-- The present time. -/
  now : Nat
  /-- When the scheduled tick is due; none when none is scheduled. -/
  deadline : Option Nat
  deriving DecidableEq, Repr

/-- What can happen to it: an operation at this moment, or time passing. -/
inductive TimedAction where
  | op (i : Instr)
  | wait (d : Nat)
  deriving DecidableEq, Repr

/-- When the next tick is due after an operation that left the block in `t`: a step that schedules "starts a fresh full interval from
that step, dropping what was left of the old one" (41 R148, 92 D25); a step that leaves no tick pending has no deadline; any other
keeps it. -/
def nextDeadline (interval now : Nat) (old : Option Nat) (t : State) : Option Nat :=
  if t.out.tickReq then some (now + interval)
  else if t.vars.tickPending then old
  else none

/-- The tick source fires exactly when its request is due, and never without one (70 R212 (b)); the other agents act at any moment. -/
def mayPerform (i : Instr) (ts : TimedState) : Bool := !i.isTick || ts.deadline == some ts.now

/-- Time passes up to the due tick and not beyond it: the tick source fires one interval after the request (41 R143, R148). -/
def mayWait (d : Nat) (ts : TimedState) : Bool :=
  match ts.deadline with
  | none => true
  | some due => decide (ts.now + d ≤ due)

/-- One action of the timed block; none where it cannot happen. -/
def timedStep (interval : Nat) (a : TimedAction) (ts : TimedState) : Option TimedState :=
  match a with
  | .wait d => if mayWait d ts then some { ts with now := ts.now + d } else none
  | .op i =>
    if mayPerform i ts then
      match exec i ts.block with
      | .next t =>
        some { block := t, now := ts.now, deadline := nextDeadline interval ts.now ts.deadline t }
      | .fault _ => none
      | .refused _ => none
    else none

/-- A run of the timed block; none where an action of it cannot happen. -/
def timedRun (interval : Nat) : List TimedAction → TimedState → Option TimedState
  | [], ts => some ts
  | a :: rest, ts =>
    match timedStep interval a ts with
    | none => none
    | some us => timedRun interval rest us

/-- The operations of a timed run: the untimed model "forgets the deadline" (41 R148). -/
def opsOf : List TimedAction → List Instr
  | [] => []
  | .op i :: rest => i :: opsOf rest
  | .wait _ :: rest => opsOf rest

/-- How much time the waits of a timed run add up to. -/
def timeOf : List TimedAction → Nat
  | [] => 0
  | .op _ :: rest => timeOf rest
  | .wait d :: rest => d + timeOf rest

/-- The timed block right after `INIT`: no tick is scheduled (70 R210). -/
def TimedState.reset : TimedState := { block := State.reset, now := 0, deadline := none }

end Sys2Proof.Machine
end

