-- ==== Sys2Proof/Safety.lean ====
section
/-! DEFINITION. What every reachable state keeps (10_state R40), and the words the statements about runs use. -/

namespace Sys2Proof.Machine

/-- The invariants V1 to V6 and V9 of 10_state R40. V7 is about a step, not a state; V8 holds by the registers' types. -/
structure Sound (s : State) : Prop where
  /-- V1: `n` is 0 or 1. -/
  n_le_one : s.vars.n = 0#2 ∨ s.vars.n = 1#2
  /-- V2: latched, so no tick is pending. -/
  latched_idle : s.vars.resetLatched = true → s.vars.tickPending = false
  /-- V3: halted, so no tick is pending. -/
  halted_idle : s.vars.control1.getLsbD 11 = true → s.vars.tickPending = false
  /-- V4: Control1 bit 8 reads 0. -/
  control1_reserved : s.vars.control1.getLsbD 8 = false
  /-- V5: Status1 bits 0, 7, 8, 9, 10, 12 read 0. -/
  status1_reserved : s.vars.status1 &&& 0x1781#16 = 0#16
  /-- V6: Status2 bits 2:0 read 0; with `P_ESC_STS2` only bit 0 must. -/
  status2_reserved : s.vars.status2 &&& (if s.params.escSts2 then 0x0001#16 else 0x0007#16) = 0#16
  /-- V9: latched, so `n` is 0. -/
  latched_n_zero : s.vars.resetLatched = true → s.vars.n = 0#2

/-- No operation of the sequence is `INIT`. -/
def noInit (ops : List Instr) : Bool := ops.all (fun i => i != .init)

/-- No operation of the sequence writes `timer_value`: no `WR_TMR`, no `INIT` (10_state R32). -/
def keepsTimer (ops : List Instr) : Bool :=
  ops.all (fun i => match i with
    | .wrTmr _ => false
    | .init => false
    | .rdRld | .rdDin | .rdDout | .rdSts1 | .rdSts2 | .rdCnt1 | .rdCnt2
    | .rdMsg1 | .rdMsg2 | .rdWdcnt | .rdSwirq | .rdTmr | .rdUnmapped _
    | .wrRld _ | .wrDin _ | .wrDout _ | .wrSts1 _ | .wrSts2 _ | .wrCnt1 _ | .wrCnt2 _
    | .wrMsg1 _ | .wrMsg2 _ | .wrWdcnt _ | .wrSwirq _ | .wrUnmapped _ _ | .tick _ _ => true)

/-- No operation of the sequence writes Control1: no `WR_CNT1`, no `INIT` (10_state R26). -/
def keepsControl1 (ops : List Instr) : Bool :=
  ops.all (fun i => match i with
    | .wrCnt1 _ => false
    | .init => false
    | .rdRld | .rdDin | .rdDout | .rdSts1 | .rdSts2 | .rdCnt1 | .rdCnt2
    | .rdMsg1 | .rdMsg2 | .rdWdcnt | .rdSwirq | .rdTmr | .rdUnmapped _
    | .wrRld _ | .wrDin _ | .wrDout _ | .wrSts1 _ | .wrSts2 _ | .wrCnt2 _
    | .wrMsg1 _ | .wrMsg2 _ | .wrWdcnt _ | .wrSwirq _ | .wrTmr _ | .wrUnmapped _ _ | .tick _ _ => true)

/-- How many `TICK`s a sequence holds. -/
def tickCount (ops : List Instr) : Nat := ops.countP (fun i => i.isTick)

/-- `T(c)`: the number of the tick at which a counter of `c` expires (41 R147). -/
def ticksToExpiry (c : Word) : Nat := ((c - 1#16) &&& Config.reloadMask).toNat + 1

/-- The part of a block that decides what it does: the countdown and the escalation policy read these variables and, of Control1,
`HALT` only (41 R140, R144; 42 R160). -/
structure SameEngine (s t : State) : Prop where
  reloadCounter : s.vars.reloadCounter = t.vars.reloadCounter
  timerValue : s.vars.timerValue = t.vars.timerValue
  halt : halted s.vars = halted t.vars
  n : s.vars.n = t.vars.n
  tickPending : s.vars.tickPending = t.vars.tickPending
  resetLatched : s.vars.resetLatched = t.vars.resetLatched

end Sys2Proof.Machine
end

