-- ==== Sys2Proof/Certificates/Slice0/Obligations.lean ====
section
/-! DEFINITION. The statements for the provers, by the rules of `spec/`. A next state is written out whole, so that every variable not
named is unchanged; `⟨r, es, q, c⟩` is the output: the read value `r`, the events `es`, tick requested `q`, tick cancelled `c`. -/

open Sys2Proof Sys2Proof.Machine

/-! ## Encoding (30_encoding) -/

/-- Decoding the word of a well-formed operation gives the operation back, every operand at every value (R81, R82, R85, R86). -/
def Obligations.DecodeEncodeRoundTrip : Prop :=
  ∀ i : Instr, i.wellFormed = true → decode (encode i) = i

/-- The bits an `R`, `I` or `T` word gives no meaning are ignored by the decoder and written as 0 by the encoder, and no word is
illegal: with the ignored bits zeroed, a word decodes to the same well-formed operation and is what the encoder writes. R86, which the
spec marks as its own decision (92 D17). -/
def Obligations.IgnoredBitsAreIgnoredAndWrittenZero : Prop :=
  ∀ w canonical : OpWord,
    canonical = (if kindField w = 0#2 then w &&& 0x3FFFF0000#34
      else if kindField w = 1#2 then w
      else if kindField w = 2#2 then w &&& 0x300000003#34
      else w &&& 0x300000000#34) →
    (decode w).wellFormed = true ∧ decode canonical = decode w ∧ encode (decode w) = canonical

/-- R85, the spec's own decisions (92 D1, D5): with the twenty-four rows of mask 0x3FFFF0000 tried first and the four of mask 0x300000000
last, every word selects exactly one row, and the decoder gives the operation of that row; an offset that is none of the twelve falls
through, the whole 16 bits compared. -/
def Obligations.DecodeFollowsTablePriority : Prop :=
  (∀ w : OpWord, ∃ r : Row, firstRow w = some r ∧ r.mnemonic = (decode w).mnemonic) ∧
  (∀ (off : Offset) (v : Word),
    off ∉ [0x00#16, 0x02#16, 0x03#16, 0x04#16, 0x06#16, 0x08#16, 0x0a#16, 0x0c#16, 0x0d#16, 0x0e#16, 0x10#16, 0x12#16] →
    decode (readWord off) = .rdUnmapped off ∧ decode (writeWord off v) = .wrUnmapped off v)

/-- R90, derived by the spec from R81: the worked encodings. -/
def Obligations.WorkedEncodingsHold : Prop :=
  encode .init = 0x300000000#34 ∧ encode kick = 0x100000001#34 ∧ encode .rdSts1 = 0x000040000#34 ∧
  encode clearStatus1 = 0x100040000#34 ∧ encode stop = 0x100080800#34 ∧ encode go = 0x100080000#34 ∧
  encode (setTimer 3#16) = 0x100120003#34 ∧ encode (.wrDin 0x00A5#16) = 0x1000200A5#34 ∧
  encode (.tick false false) = 0x200000000#34 ∧ encode (.tick false true) = 0x200000001#34 ∧
  encode (.tick true false) = 0x200000002#34 ∧ encode (.tick true true) = 0x200000003#34 ∧
  encode (.rdUnmapped 0x0020#16) = 0x000200000#34

/-- Words written out from the spec's encoding, at least one of every family, decode to the operations they stand for (R81, R82). -/
def Obligations.WrittenOutWordsDecode : Prop :=
  decode 0x300000000#34 = .init ∧ decode 0x3FFFFFFFF#34 = .init ∧ decode 0x2FFFF0003#34 = .tick true true ∧
  decode 0x200000002#34 = .tick true false ∧ decode 0x00000FFFF#34 = .rdRld ∧ decode 0x000120000#34 = .rdTmr ∧
  decode 0x000130000#34 = .rdUnmapped 0x0013#16 ∧ decode 0x001000000#34 = .rdUnmapped 0x0100#16 ∧
  decode 0x100080800#34 = .wrCnt1 0x0800#16 ∧ decode 0x100120004#34 = .wrTmr 0x0004#16 ∧
  decode 0x1000200A5#34 = .wrDin 0x00A5#16 ∧ decode 0x10005FFFF#34 = .wrUnmapped 0x0005#16 0xFFFF#16

/-! ## The step -/

/-- A step runs the decoded operation: the oldest word presented decodes to a well-formed operation, and the step is `exec` of it on
the state with that word taken out of the inbox (R10, R68). The inbox is the model's own (log 1). -/
def Obligations.StepRunsDecodedOperation : Prop :=
  ∀ (s : State) (w : OpWord) (rest : List OpWord), s.inbox = w :: rest →
    (decode w).wellFormed = true ∧ step s = exec (decode w) { s with inbox := rest }

/-- With no operation presented a step changes no variable and yields nothing: the block never starts a step on its own (R6). That such
a step is a next state is the model's choice (log 2). -/
def Obligations.StepWithoutOperationIdles : Prop :=
  ∀ s : State, s.inbox = [] → step s = .next { s with out := ⟨none, [], false, false⟩ }

/-- Every operation, whatever its offset and operand, completes in every state, the latched state too (R75, derived by the spec from
R62, R100 and R114; for `TICK` and `INIT` R144 and R210). -/
def Obligations.EveryOperationCompletes : Prop :=
  ∀ (i : Instr) (s : State), ∃ t : State, exec i s = .next t

/-- No operation writes the open parameter or the operations still to come (R8, R68; the model's own fields, log 1, log 5). -/
def Obligations.OperationsKeepParameterAndInbox : Prop :=
  ∀ (i : Instr) (s t : State), exec i s = .next t → t.params = s.params ∧ t.inbox = s.inbox

/-! ## Reads (40, section 1) -/

/-- R107, R112 and the other 16-bit registers: a read returns all 16 stored bits, unmasked, and does nothing else. -/
def Obligations.WordReadsReturnStoredValue : Prop :=
  ∀ s : State,
    exec .rdRld s = .next { s with out := ⟨some s.vars.reloadCounter, [], false, false⟩ } ∧
    exec .rdSts1 s = .next { s with out := ⟨some s.vars.status1, [], false, false⟩ } ∧
    exec .rdSts2 s = .next { s with out := ⟨some s.vars.status2, [], false, false⟩ } ∧
    exec .rdCnt1 s = .next { s with out := ⟨some s.vars.control1, [], false, false⟩ } ∧
    exec .rdCnt2 s = .next { s with out := ⟨some s.vars.control2, [], false, false⟩ } ∧
    exec .rdTmr s = .next { s with out := ⟨some s.vars.timerValue, [], false, false⟩ }

/-- R102, R103, R108, R109, R111 and WatchdogCount: a read of an 8-bit register returns the byte with eight zero bits above it, the
neighbour's byte being no part of it, and does nothing else. -/
def Obligations.ByteReadsZeroExtend : Prop :=
  ∀ s : State,
    exec .rdDin s = .next { s with out := ⟨some (0#8 ++ s.vars.dataIn), [], false, false⟩ } ∧
    exec .rdDout s = .next { s with out := ⟨some (0#8 ++ s.vars.dataOut), [], false, false⟩ } ∧
    exec .rdMsg1 s = .next { s with out := ⟨some (0#8 ++ s.vars.message1), [], false, false⟩ } ∧
    exec .rdMsg2 s = .next { s with out := ⟨some (0#8 ++ s.vars.message2), [], false, false⟩ } ∧
    exec .rdWdcnt s = .next { s with out := ⟨some (0#8 ++ s.vars.watchdogCount), [], false, false⟩ } ∧
    exec .rdSwirq s = .next { s with out := ⟨some (0#8 ++ s.vars.irqSelect), [], false, false⟩ }

/-- R113: a read of any offset other than the twelve returns 0x0000 and does nothing else. -/
def Obligations.UnmappedReadsReturnZero : Prop :=
  (∀ (off : Offset) (s : State),
    exec (.rdUnmapped off) s = .next { s with out := ⟨some 0x0000#16, [], false, false⟩ }) ∧
  (∀ (off : Offset) (s : State),
    off ∉ [0x00#16, 0x02#16, 0x03#16, 0x04#16, 0x06#16, 0x08#16, 0x0a#16, 0x0c#16, 0x0d#16, 0x0e#16, 0x10#16, 0x12#16] →
    exec (decode (readWord off)) s = .next { s with out := ⟨some 0x0000#16, [], false, false⟩ })

/-- R100: a bus read of any offset returns `RegRead` of it, unmasked, changes no variable and emits nothing; the value depends on no
hidden variable. -/
def Obligations.BusReadIsRegRead : Prop :=
  (∀ (off : Offset) (s : State),
    exec (decode (readWord off)) s = .next { s with out := ⟨some (regRead off s.vars), [], false, false⟩ }) ∧
  (∀ v : Vars,
    regRead 0x0000#16 v = v.reloadCounter ∧ regRead 0x0002#16 v = 0#8 ++ v.dataIn ∧
    regRead 0x0003#16 v = 0#8 ++ v.dataOut ∧ regRead 0x0004#16 v = v.status1 ∧
    regRead 0x0006#16 v = v.status2 ∧ regRead 0x0008#16 v = v.control1 ∧
    regRead 0x000a#16 v = v.control2 ∧ regRead 0x000c#16 v = 0#8 ++ v.message1 ∧
    regRead 0x000d#16 v = 0#8 ++ v.message2 ∧ regRead 0x000e#16 v = 0#8 ++ v.watchdogCount ∧
    regRead 0x0010#16 v = 0#8 ++ v.irqSelect ∧ regRead 0x0012#16 v = v.timerValue) ∧
  (∀ (off : Offset) (v : Vars),
    off ∉ [0x00#16, 0x02#16, 0x03#16, 0x04#16, 0x06#16, 0x08#16, 0x0a#16, 0x0c#16, 0x0d#16, 0x0e#16, 0x10#16, 0x12#16] →
    regRead off v = 0x0000#16) ∧
  (∀ (off : Offset) (v : Vars) (k : BitVec 2) (p l : Bool),
    regRead off { v with n := k, tickPending := p, resetLatched := l } = regRead off v)

/-! ## Writes (40, section 2) -/

/-- R114: a bus write of any offset performs exactly one of the writes R115 to R127, selected by the whole offset, and returns no
value. -/
def Obligations.BusWriteIsRegWrite : Prop :=
  (∀ (off : Offset) (v : Word) (s : State), exec (decode (writeWord off v)) s = regWrite off v s) ∧
  (∀ (v : Word) (s : State),
    regWrite 0x0000#16 v s = exec (.wrRld v) s ∧ regWrite 0x0002#16 v s = exec (.wrDin v) s ∧
    regWrite 0x0003#16 v s = exec (.wrDout v) s ∧ regWrite 0x0004#16 v s = exec (.wrSts1 v) s ∧
    regWrite 0x0006#16 v s = exec (.wrSts2 v) s ∧ regWrite 0x0008#16 v s = exec (.wrCnt1 v) s ∧
    regWrite 0x000a#16 v s = exec (.wrCnt2 v) s ∧ regWrite 0x000c#16 v s = exec (.wrMsg1 v) s ∧
    regWrite 0x000d#16 v s = exec (.wrMsg2 v) s ∧ regWrite 0x000e#16 v s = exec (.wrWdcnt v) s ∧
    regWrite 0x0010#16 v s = exec (.wrSwirq v) s ∧ regWrite 0x0012#16 v s = exec (.wrTmr v) s) ∧
  (∀ (off : Offset) (v : Word) (s : State),
    off ∉ [0x00#16, 0x02#16, 0x03#16, 0x04#16, 0x06#16, 0x08#16, 0x0a#16, 0x0c#16, 0x0d#16, 0x0e#16, 0x10#16, 0x12#16] →
    regWrite off v s = exec (.wrUnmapped off v) s) ∧
  (∀ (off : Offset) (v : Word) (s : State), ∃ t : State, regWrite off v s = .next t ∧ t.out.readValue = none)

/-- R121 to R125: a write of a plain-storage register stores the operand at the register's width and does nothing else. -/
def Obligations.PlainStorageWritesStoreOperand : Prop :=
  ∀ (v : Word) (s : State),
    exec (.wrCnt2 v) s = .next { s with vars := { s.vars with control2 := v }, out := ⟨none, [], false, false⟩ } ∧
    exec (.wrMsg1 v) s =
      .next { s with vars := { s.vars with message1 := v.extractLsb' 0 8 }, out := ⟨none, [], false, false⟩ } ∧
    exec (.wrMsg2 v) s =
      .next { s with vars := { s.vars with message2 := v.extractLsb' 0 8 }, out := ⟨none, [], false, false⟩ } ∧
    exec (.wrWdcnt v) s =
      .next { s with vars := { s.vars with watchdogCount := v.extractLsb' 0 8 }, out := ⟨none, [], false, false⟩ } ∧
    exec (.wrSwirq v) s =
      .next { s with vars := { s.vars with irqSelect := v.extractLsb' 0 8 }, out := ⟨none, [], false, false⟩ }

/-- R126, its effect: `WR_TMR` stores all 16 bits, touches neither the counter, nor the tick request, nor `n`, and decides only whether
the block is armable. -/
def Obligations.TimerWriteStoresAndDoesNotArm : Prop :=
  ∀ (v : Word) (s : State),
    exec (.wrTmr v) s = .next { s with vars := { s.vars with timerValue := v }, out := ⟨none, [], false, false⟩ } ∧
    (armable { s.vars with timerValue := v } = true ↔ s.vars.control1.getLsbD 11 = false ∧ 1 < v.toNat)

/-- R127: a write of any offset other than the twelve has no effect. -/
def Obligations.UnmappedWriteHasNoEffect : Prop :=
  (∀ (off : Offset) (v : Word) (s : State),
    exec (.wrUnmapped off v) s = .next { s with out := ⟨none, [], false, false⟩ }) ∧
  (∀ (off : Offset) (v : Word) (s : State),
    off ∉ [0x00#16, 0x02#16, 0x03#16, 0x04#16, 0x06#16, 0x08#16, 0x0a#16, 0x0c#16, 0x0d#16, 0x0e#16, 0x10#16, 0x12#16] →
    exec (decode (writeWord off v)) s = .next { s with out := ⟨none, [], false, false⟩ })

/-- R116: `WR_DIN` stores the low byte, sets Status1 bit 1 and emits SMI, whatever the state and the value. -/
def Obligations.DataInWriteEmitsSmi : Prop :=
  ∀ (v : Word) (s : State),
    exec (.wrDin v) s =
      .next { s with vars := { s.vars with dataIn := v.extractLsb' 0 8, status1 := s.vars.status1 ||| 0x0002#16 },
                     out := ⟨none, [.smi], false, false⟩ }

/-- R117: `WR_DOUT` stores the low byte and sets Status1 bit 2; no event. -/
def Obligations.DataOutWriteSetsFlagSilently : Prop :=
  ∀ (v : Word) (s : State),
    exec (.wrDout v) s =
      .next { s with vars := { s.vars with dataOut := v.extractLsb' 0 8, status1 := s.vars.status1 ||| 0x0004#16 },
                     out := ⟨none, [], false, false⟩ }

/-- R118: `WR_STS1` is a masked assignment, so any operand clears bits 1, 2 and 3 at once and sets or clears the seven bits of the mask
as given; no other operation but `INIT` changes those seven. -/
def Obligations.Status1WriteIsMaskedAssignment : Prop :=
  (∀ (v : Word) (s : State),
    exec (.wrSts1 v) s =
      .next { s with vars := { s.vars with status1 := v &&& 0xe870#16 }, out := ⟨none, [], false, false⟩ }) ∧
  (∀ v : Word, (v &&& 0xe870#16) &&& 0x000e#16 = 0x0000#16) ∧
  (∀ (i : Instr) (s t : State), exec i s = .next t → (∀ v : Word, i ≠ .wrSts1 v) → i ≠ .init →
    t.vars.status1 &&& 0xe870#16 = s.vars.status1 &&& 0xe870#16)

/-- R119: `WR_STS2` is a masked assignment; bits 2:0 become 0. -/
def Obligations.Status2WriteIsMaskedAssignment : Prop :=
  ∀ (v : Word) (s : State),
    exec (.wrSts2 v) s =
      .next { s with vars := { s.vars with status2 := v &&& 0xfff8#16 }, out := ⟨none, [], false, false⟩ } ∧
    (v &&& 0xfff8#16) &&& 0x0007#16 = 0x0000#16

/-- `WR_RLD` (R115; that the operand goes into a counter whose tick is still pending is the spec's own decision, 92 D19): it clears `n` in
every case; when the block is armable the counter becomes `timer_value`, whatever the operand, and a tick is asked for unless latched;
else the operand is stored and the tick request left as it is, which on a halted reachable block is none. -/
def Obligations.ReloadWriteKicksOrStores : Prop :=
  ∀ (v : Word) (s : State),
    (s.vars.control1.getLsbD 11 = false → 1 < s.vars.timerValue.toNat →
      exec (.wrRld v) s =
        .next { s with
          vars := { s.vars with n := 0#2, reloadCounter := s.vars.timerValue,
                                tickPending := s.vars.tickPending || !s.vars.resetLatched },
          out := ⟨none, [], !s.vars.resetLatched, false⟩ }) ∧
    (s.vars.control1.getLsbD 11 = true ∨ s.vars.timerValue.toNat ≤ 1 →
      exec (.wrRld v) s =
        .next { s with vars := { s.vars with n := 0#2, reloadCounter := v }, out := ⟨none, [], false, false⟩ }) ∧
    (Sound s → s.vars.control1.getLsbD 11 = true → s.vars.tickPending = false)

/-- `WR_CNT1` (R120; the level test and what happens to `n` are the spec's own decisions, 92 D11, D12): it stores the operand under mask
0xfeff with a set `LOCK` kept; by the state after the write it then arms (the counter from `timer_value`, a tick asked for unless latched,
`n` as it was) or disarms (a pending tick cancelled, `n` cleared, the counter as it was). When `tick_cancel` shows is log 4. -/
def Obligations.Control1WriteArmsOrDisarms : Prop :=
  ∀ (v c : Word) (s : State), c = (v &&& 0xfeff#16) ||| (s.vars.control1 &&& 0x1000#16) →
    (c.getLsbD 11 = false → 1 < s.vars.timerValue.toNat →
      exec (.wrCnt1 v) s =
        .next { s with
          vars := { s.vars with control1 := c, reloadCounter := s.vars.timerValue,
                                tickPending := s.vars.tickPending || !s.vars.resetLatched },
          out := ⟨none, [], !s.vars.resetLatched, false⟩ }) ∧
    (c.getLsbD 11 = true ∨ s.vars.timerValue.toNat ≤ 1 →
      exec (.wrCnt1 v) s =
        .next { s with vars := { s.vars with control1 := c, tickPending := false, n := 0#2 },
                       out := ⟨none, [], false, s.vars.tickPending⟩ }) ∧
    c.getLsbD 8 = false ∧ c.getLsbD 12 = (s.vars.control1.getLsbD 12 || v.getLsbD 12) ∧
    c.getLsbD 11 = v.getLsbD 11

/-- Plain-storage and status writes reach one offset: reading it back gives what the write's policy stores, and every other offset
reads as before, the adjacent offsets too (R64, R68 (a)). -/
def Obligations.StorageWritesReachOneOffset : Prop :=
  ∀ (i : Instr) (s t : State) (v x : Word) (off : Offset),
    (i, off, x) ∈ [(Instr.wrSts1 v, 0x0004#16, v &&& 0xe870#16), (.wrSts2 v, 0x0006#16, v &&& 0xfff8#16),
      (.wrCnt2 v, 0x000a#16, v), (.wrMsg1 v, 0x000c#16, v &&& 0x00ff#16), (.wrMsg2 v, 0x000d#16, v &&& 0x00ff#16),
      (.wrWdcnt v, 0x000e#16, v &&& 0x00ff#16), (.wrSwirq v, 0x0010#16, v &&& 0x00ff#16), (.wrTmr v, 0x0012#16, v)] →
    exec i s = .next t →
    regRead off t.vars = x ∧ ∀ other : Offset, other ≠ off → regRead other t.vars = regRead other s.vars

/-! ## The tick and the escalation policy (41, 42) -/

/-- A `TICK` with no tick pending changes nothing and emits nothing, so on a reachable block that is halted or latched no `TICK` has
any effect (R143; the spec's own decision, 92 D7). -/
def Obligations.StaleTickChangesNothing : Prop :=
  ∀ (nr se : Bool) (s : State),
    (s.vars.tickPending = false → exec (.tick nr se) s = .next { s with out := ⟨none, [], false, false⟩ }) ∧
    (Sound s → s.vars.control1.getLsbD 11 = true ∨ s.vars.resetLatched = true →
      exec (.tick nr se) s = .next { s with out := ⟨none, [], false, false⟩ })

/-- A pending tick whose decremented counter has low 10 bits other than 0 counts down by 1 modulo 65536, asks for the next tick and does
nothing else, whatever the flags; a counter of 0x0000 goes to 0xffff this way (R144 step 2, R145; the wrap is the spec's own decision, 92
D8). -/
def Obligations.TickCountsDown : Prop :=
  (∀ (nr se : Bool) (s : State), s.vars.tickPending = true → (s.vars.reloadCounter - 1#16) &&& 0x03ff#16 ≠ 0x0000#16 →
    exec (.tick nr se) s =
      .next { s with vars := { s.vars with reloadCounter := s.vars.reloadCounter - 1#16 },
                     out := ⟨none, [], true, false⟩ }) ∧
  (0x0000#16 - 1#16 : Word) = 0xffff#16 ∧ (0xffff#16 : Word) &&& 0x03ff#16 ≠ 0x0000#16

/-- R162: a first timeout sets Status1 bit 3, makes `n` 1, emits one interrupt by `smi_en`, whatever `no_reboot`, and the countdown goes
on from `timer_value`. -/
def Obligations.FirstTimeoutInterrupts : Prop :=
  ∀ (nr se : Bool) (s : State), s.vars.tickPending = true → s.vars.resetLatched = false → s.vars.n = 0#2 →
    (s.vars.reloadCounter - 1#16) &&& 0x03ff#16 = 0x0000#16 →
    exec (.tick nr se) s =
      .next { s with
        vars := { s.vars with reloadCounter := s.vars.timerValue, status1 := s.vars.status1 ||| 0x0008#16, n := 1#2 },
        out := ⟨none, [if se then .smi else .nmi], true, false⟩ }

/-- A second consecutive timeout (R163, with the outcomes of R161, R164 and R165): it sets the timeout, second-timeout and boot-status
bits (the pair in Status1 by default, in Status2 with `P_ESC_STS2`, the spec's own decision, 92 D13) and clears `n` both ways; with
`no_reboot` = 0 it emits `WDT_RESET` alone, latches (the spec's own decision, 92 D9), and keeps the decremented counter with no tick
pending; with `no_reboot` = 1 it emits one interrupt and the countdown goes on. That the `WDT_RESET` path shows no `tick_cancel` is the
model's choice (log 4). -/
def Obligations.SecondTimeoutResetsOrInterrupts : Prop :=
  ∀ (se : Bool) (s : State) (st1 st2 : Word),
    s.vars.tickPending = true → s.vars.resetLatched = false → s.vars.n = 1#2 →
    (s.vars.reloadCounter - 1#16) &&& 0x03ff#16 = 0x0000#16 →
    st1 = (if s.params.escSts2 then s.vars.status1 ||| 0x0008#16 else s.vars.status1 ||| 0x000e#16) →
    st2 = (if s.params.escSts2 then s.vars.status2 ||| 0x0006#16 else s.vars.status2) →
    exec (.tick false se) s =
      .next { s with
        vars := { s.vars with reloadCounter := s.vars.reloadCounter - 1#16, status1 := st1, status2 := st2, n := 0#2,
                              tickPending := false, resetLatched := true },
        out := ⟨none, [.wdtReset], false, false⟩ } ∧
    exec (.tick true se) s =
      .next { s with
        vars := { s.vars with reloadCounter := s.vars.timerValue, status1 := st1, status2 := st2, n := 0#2 },
        out := ⟨none, [if se then .smi else .nmi], true, false⟩ }

/-- The flags are looked at only where the policy reads them: `no_reboot` at a second consecutive timeout, `smi_en` where an interrupt
is delivered (R36, R144 (d), R225). -/
def Obligations.OutsideFlagsMatterOnlyWhereRead : Prop :=
  ∀ (nr nr' se se' : Bool) (s : State),
    (s.vars.tickPending = false ∨ (s.vars.reloadCounter - 1#16) &&& 0x03ff#16 ≠ 0x0000#16 →
      exec (.tick nr se) s = exec (.tick nr' se') s) ∧
    (s.vars.n ≠ 1#2 → exec (.tick nr se) s = exec (.tick nr' se) s) ∧
    (s.vars.n = 1#2 → exec (.tick false se) s = exec (.tick false se') s)

/-- R187, derived by the spec from R161: one operation emits at most one event: `WR_DIN` exactly SMI; a `TICK` that is a timeout exactly
one of `WDT_RESET`, SMI, NMI, by `n`, `no_reboot` and `smi_en` in that order; every other operation none. -/
def Obligations.EventsAreExactlyTheseAndAtMostOne : Prop :=
  ∀ (i : Instr) (s t : State), exec i s = .next t →
    t.out.events.length ≤ 1 ∧
    t.out.events =
      match i with
      | .wrDin _ => [.smi]
      | .tick nr se =>
        if s.vars.tickPending = true ∧ (s.vars.reloadCounter - 1#16) &&& 0x03ff#16 = 0x0000#16 then
          if s.vars.n = 1#2 ∧ nr = false then [.wdtReset] else if se then [.smi] else [.nmi]
        else []
      | _ => []

/-- Everything that sets `n` (R167; that a `WR_CNT1` which arms does not is the spec's own decision, 92 D12). -/
def Obligations.TimeoutCounterIsSetOnlyByRule : Prop :=
  ∀ (i : Instr) (s t : State), exec i s = .next t →
    t.vars.n =
      match i with
      | .wrRld _ => 0#2
      | .wrCnt1 _ => if t.vars.control1.getLsbD 11 = false ∧ 1 < t.vars.timerValue.toNat then s.vars.n else 0#2
      | .tick _ _ =>
        if s.vars.tickPending = true ∧ (s.vars.reloadCounter - 1#16) &&& 0x03ff#16 = 0x0000#16 then
          if s.vars.n + 1#2 = 2#2 then 0#2 else s.vars.n + 1#2
        else s.vars.n
      | .init => 0#2
      | _ => s.vars.n

/-- R150, derived by the spec from R141, R142, R144 and R210: on a reachable block the tick request is set only by a `WR_RLD` or `WR_CNT1`
that finds the block armable and not latched, and withdrawn only by a `WR_CNT1` that leaves it not armable, by the `WDT_RESET` path, or by
`INIT`; every other operation leaves it, so a `TICK` that emits no `WDT_RESET` keeps the countdown running. -/
def Obligations.CountdownStartsAndStopsOnlyByRule : Prop :=
  ∀ (i : Instr) (s t : State), Sound s → exec i s = .next t →
    (s.vars.tickPending = false → t.vars.tickPending = true →
      (∃ v : Word, i = .wrRld v ∨ i = .wrCnt1 v) ∧ t.vars.control1.getLsbD 11 = false ∧
        1 < t.vars.timerValue.toNat ∧ s.vars.resetLatched = false) ∧
    (s.vars.tickPending = true → t.vars.tickPending = false →
      (∃ v : Word, i = .wrCnt1 v ∧ (t.vars.control1.getLsbD 11 = true ∨ t.vars.timerValue.toNat ≤ 1)) ∨
      (∃ nr se : Bool, i = .tick nr se ∧ t.out.events = [.wdtReset]) ∨
      i = .init)

/-! ## Initialisation (70, 10_state section 7) -/

/-- R210 (that it cancels a pending tick is the spec's own decision, 92 D15): `INIT` gives every variable its reset value, whatever the
state before it, cancels a pending tick and emits nothing; and it is the only operation that clears `LOCK` or the latch.
That `tick_cancel` shows when a tick was pending is log 4. -/
def Obligations.InitRestoresEveryVariable : Prop :=
  (∀ s : State,
    exec .init s =
      .next { s with
        vars := { reloadCounter := 0x0000#16, dataIn := 0x00#8, dataOut := 0x00#8, status1 := 0x0000#16,
                  status2 := 0x0000#16, control1 := 0x0000#16, control2 := 0x0008#16, message1 := 0x00#8,
                  message2 := 0x00#8, watchdogCount := 0x00#8, irqSelect := 0x03#8, timerValue := 0x0004#16, n := 0#2,
                  tickPending := false, resetLatched := false },
        out := ⟨none, [], false, s.vars.tickPending⟩ }) ∧
  (∀ (i : Instr) (s t : State), exec i s = .next t → i ≠ .init →
    (s.vars.control1.getLsbD 12 = true → t.vars.control1.getLsbD 12 = true) ∧
    (s.vars.resetLatched = true → t.vars.resetLatched = true))

/-- The reset state holds the documented default of every variable and is what `INIT` leaves (R41). The parameter's default is R8's; that
nothing is presented or shown at reset is the model's choice (log 1, log 3). -/
def Obligations.ResetStateHoldsDefaults : Prop :=
  State.reset.vars =
    { reloadCounter := 0x0000#16, dataIn := 0x00#8, dataOut := 0x00#8, status1 := 0x0000#16, status2 := 0x0000#16,
      control1 := 0x0000#16, control2 := 0x0008#16, message1 := 0x00#8, message2 := 0x00#8, watchdogCount := 0x00#8,
      irqSelect := 0x03#8, timerValue := 0x0004#16, n := 0#2, tickPending := false, resetLatched := false } ∧
  exec .init State.reset = .next State.reset ∧ State.reset.params.escSts2 = false

/-- R211: after `INIT` the block is armable and not armed, and until the first `WR_RLD` or `WR_CNT1` it stays so: no tick is pending,
and no `TICK` among the operations changes or emits anything. -/
def Obligations.NothingRunsBeforeFirstArming : Prop :=
  armable State.reset.vars = true ∧ State.reset.vars.tickPending = false ∧
  ∀ (ops : List Instr), (∀ v : Word, Instr.wrRld v ∉ ops ∧ Instr.wrCnt1 v ∉ ops) →
    (runState ops State.reset).vars.tickPending = false ∧
    (∀ nr se : Bool, exec (.tick nr se) (runState ops State.reset) =
      .next { runState ops State.reset with out := ⟨none, [], false, false⟩ }) ∧
    Event.nmi ∉ runEvents ops State.reset ∧ Event.wdtReset ∉ runEvents ops State.reset

/-! ## Invariants (10_state R40) and whole-machine rules -/

/-- The reset state satisfies V1 to V6 and V9 (R40, R41). -/
def Obligations.ResetStateIsSound : Prop := Sound State.reset

/-- Every step keeps the invariants V1 to V6 and V9, from every state that has them, whatever word is presented (R40, derived by the
spec from R39 and R41). -/
def Obligations.StepKeepsSound : Prop :=
  ∀ s t : State, Sound s → step s = .next t → Sound t

/-- `LOCK` is one-way: whatever sequence of operations without an `INIT` follows, it stays set and every read of Control1 shows it
(R40 V7, R224). -/
def Obligations.LockStaysSetUntilInit : Prop :=
  ∀ (ops : List Instr) (s : State), noInit ops = true → s.vars.control1.getLsbD 12 = true →
    (runState ops s).vars.control1.getLsbD 12 = true ∧
    ∃ (t : State) (w : Word), exec .rdCnt1 (runState ops s) = .next t ∧ t.out.readValue = some w ∧ w.getLsbD 12 = true

/-- The write matrix (R39, derived by the spec from the rules of the operations): each of the fifteen variables is changed only by the
operations of its row. -/
def Obligations.WriteMatrixHolds : Prop :=
  ∀ (i : Instr) (s t : State), exec i s = .next t → i ≠ .init →
    (t.vars.reloadCounter ≠ s.vars.reloadCounter → i.isTick = true ∨ ∃ v, i = .wrRld v ∨ i = .wrCnt1 v) ∧
    (t.vars.dataIn ≠ s.vars.dataIn → ∃ v, i = .wrDin v) ∧
    (t.vars.dataOut ≠ s.vars.dataOut → ∃ v, i = .wrDout v) ∧
    (t.vars.status1 ≠ s.vars.status1 → i.isTick = true ∨ ∃ v, i = .wrDin v ∨ i = .wrDout v ∨ i = .wrSts1 v) ∧
    (t.vars.status2 ≠ s.vars.status2 → (i.isTick = true ∧ s.params.escSts2 = true) ∨ ∃ v, i = .wrSts2 v) ∧
    (t.vars.control1 ≠ s.vars.control1 → ∃ v, i = .wrCnt1 v) ∧
    (t.vars.control2 ≠ s.vars.control2 → ∃ v, i = .wrCnt2 v) ∧
    (t.vars.message1 ≠ s.vars.message1 → ∃ v, i = .wrMsg1 v) ∧
    (t.vars.message2 ≠ s.vars.message2 → ∃ v, i = .wrMsg2 v) ∧
    (t.vars.watchdogCount ≠ s.vars.watchdogCount → ∃ v, i = .wrWdcnt v) ∧
    (t.vars.irqSelect ≠ s.vars.irqSelect → ∃ v, i = .wrSwirq v) ∧
    (t.vars.timerValue ≠ s.vars.timerValue → ∃ v, i = .wrTmr v) ∧
    (t.vars.n ≠ s.vars.n → i.isTick = true ∨ ∃ v, i = .wrRld v ∨ i = .wrCnt1 v) ∧
    (t.vars.tickPending ≠ s.vars.tickPending → i.isTick = true ∨ ∃ v, i = .wrRld v ∨ i = .wrCnt1 v) ∧
    (t.vars.resetLatched ≠ s.vars.resetLatched → i.isTick = true)

/-- Reads have no side effect at any offset, and only a read yields a value (R66, first half; R100, R114). -/
def Obligations.OnlyReadsAnswerAndTheyChangeNothing : Prop :=
  ∀ (i : Instr) (s t : State), exec i s = .next t →
    (i.isRead = true →
      t.vars = s.vars ∧ t.out.events = [] ∧ t.out.tickReq = false ∧ t.out.tickCancel = false ∧
      t.out.readValue.isSome = true) ∧
    (i.isRead = false → t.out.readValue = none)

/-- R73, derived by the spec from R115 to R127: the second of two identical accesses with nothing between changes no variable; a repeated
`WR_DIN` emits SMI both times; a repeated `WR_RLD` or `WR_CNT1` that arms renews the tick request both times; no other access asks for a
tick. -/
def Obligations.RepeatedAccessesAreIdempotent : Prop :=
  ∀ (i : Instr) (s t u : State), i.isTick = false → i ≠ .init → exec i s = .next t → exec i t = .next u →
    u.vars = t.vars ∧ u.out.readValue = t.out.readValue ∧ u.out.events = t.out.events ∧ u.out.tickReq = t.out.tickReq ∧
    (∀ v : Word, i = .wrDin v → t.out.events = [.smi]) ∧
    (∀ v : Word, i = .wrRld v ∨ i = .wrCnt1 v →
      t.out.tickReq = (armable t.vars && !s.vars.resetLatched)) ∧
    ((∀ v : Word, i ≠ .wrRld v ∧ i ≠ .wrCnt1 v) → t.out.tickReq = false)

/-- Nothing the engine and the policy do depends on the data, status or plain-storage registers, on `LOCK`, or on any Control1 bit but
`HALT`: two blocks that agree on the engine's variables emit the same events under every sequence of operations, and still agree (R24,
R38, R160, R192). -/
def Obligations.EngineIgnoresEveryOtherRegister : Prop :=
  ∀ (ops : List Instr) (s t : State), SameEngine s t →
    runEvents ops s = runEvents ops t ∧ SameEngine (runState ops s) (runState ops t)

/-- While latched the countdown is dead until `INIT`: after any operations without an `INIT` the block is latched with no tick pending
and `n` = 0, and a `TICK` changes and emits nothing; a kick still loads the counter when the block is armable, and DataIn still emits
SMI (R164, R221; the latch is the spec's own decision, 92 D9). -/
def Obligations.LatchedBlockStaysDeadUntilInit : Prop :=
  ∀ (ops : List Instr) (s u : State), Sound s → s.vars.resetLatched = true → noInit ops = true → u = runState ops s →
    u.vars.resetLatched = true ∧ u.vars.tickPending = false ∧ u.vars.n = 0#2 ∧
    (∀ nr se : Bool, exec (.tick nr se) u = .next { u with out := ⟨none, [], false, false⟩ }) ∧
    (armable u.vars = true → ∀ v : Word, exec (.wrRld v) u =
      .next { u with vars := { u.vars with reloadCounter := u.vars.timerValue }, out := ⟨none, [], false, false⟩ }) ∧
    (∀ v : Word, ∃ t : State, exec (.wrDin v) u = .next t ∧ t.out.events = [.smi])

/-- `WDT_RESET` is emitted at most once between two `INIT`s: any sequence of operations without an `INIT`, from any reachable block,
emits it at most once, and not at all from a latched one (R184). -/
def Obligations.WatchdogResetAtMostOncePerInit : Prop :=
  ∀ (ops : List Instr) (s : State), Sound s → noInit ops = true →
    (runEvents ops s).count .wdtReset ≤ 1 ∧
    (s.vars.resetLatched = true → Event.wdtReset ∉ runEvents ops s)

/-- After `STOP` no `TICK` changes or emits anything for as long as Control1 is not written, whatever else the guest does (R26 `HALT`,
R150; property 7 of 95_test_vectors part 4). -/
def Obligations.StopHoldsUntilControlWrite : Prop :=
  ∀ (ops : List Instr) (s t : State) (nr se : Bool), exec stop s = .next t → keepsControl1 ops = true →
    (runState ops t).vars.tickPending = false ∧
    exec (.tick nr se) (runState ops t) = .next { runState ops t with out := ⟨none, [], false, false⟩ }

/-! ## Laws of the countdown (41 section 3, 42 section 2, 70 section 3) -/

/-- Ticks to expiry (R147, derived by the spec from R144 and R145): with a tick pending on a counter of `c` and nothing but ticks, the
first `T(c) - 1` ticks each decrease the counter by 1 and do nothing else, and tick number `T(c)` is a timeout; `T(c)` is the low 10 bits
of `c`, or 1024 where they are 0. -/
def Obligations.TimeoutComesAtTicksToExpiry : Prop :=
  (∀ (s : State) (flags : List (Bool × Bool)), s.vars.tickPending = true →
    (flags.length < ticksToExpiry s.vars.reloadCounter →
      (runState (flags.map (fun f => Instr.tick f.1 f.2)) s).vars =
        { s.vars with reloadCounter := s.vars.reloadCounter - BitVec.ofNat 16 flags.length } ∧
      runEvents (flags.map (fun f => Instr.tick f.1 f.2)) s = []) ∧
    (flags.length = ticksToExpiry s.vars.reloadCounter →
      (runEvents (flags.map (fun f => Instr.tick f.1 f.2)) s).length = 1 ∧
      (runState (flags.map (fun f => Instr.tick f.1 f.2)) s).vars.status1.getLsbD 3 = true)) ∧
  (∀ c : Word,
    ((c &&& 0x03ff#16) ≠ 0x0000#16 → ticksToExpiry c = (c &&& 0x03ff#16).toNat) ∧
    ((c &&& 0x03ff#16) = 0x0000#16 → ticksToExpiry c = 1024))

/-- Two strikes (R168, derived by the spec from R161 and R147): from a kick of a reachable armable block with `timer_value` = N in 2 ..
0x03ff, no sequence of operations that leaves `timer_value` alone and holds fewer than 2N `TICK`s emits `WDT_RESET`. -/
def Obligations.NoResetBeforeTwoFullPeriods : Prop :=
  ∀ (v : Word) (s t : State) (ops : List Instr),
    Sound s → s.vars.control1.getLsbD 11 = false →
    2 ≤ s.vars.timerValue.toNat → s.vars.timerValue.toNat ≤ 0x03ff →
    exec (.wrRld v) s = .next t → keepsTimer ops = true → tickCount ops < 2 * s.vars.timerValue.toNat →
    Event.wdtReset ∉ runEvents ops t

/-- Two strikes, the outcome (R165, and R168, derived by the spec): from the same kick on a block that is not latched, N ticks emit
exactly one interrupt, and 2N ticks emit exactly that interrupt and then `WDT_RESET` when `no_reboot` = 0, or two interrupts when it is 1;
each kind by `smi_en` at that tick's flags. -/
def Obligations.SilentGuestGetsInterruptThenReset : Prop :=
  ∀ (v : Word) (s t : State) (nr se se' : Bool) (k : Nat),
    s.vars.resetLatched = false → s.vars.control1.getLsbD 11 = false →
    s.vars.timerValue.toNat = k → 2 ≤ k → k ≤ 0x03ff →
    exec (.wrRld v) s = .next t →
    runEvents (ticks k nr se) t = [if se then .smi else .nmi] ∧
    runEvents (ticks k nr se ++ ticks k false se') t = [if se then .smi else .nmi, .wdtReset] ∧
    runEvents (ticks k nr se ++ ticks k true se') t = [if se then .smi else .nmi, if se' then .smi else .nmi]

/-- Kick cadence (R219, first half, derived by the spec from R147 and R167): a guest that writes Reload before every N-th tick sees no
timeout: kicks with fewer than N ticks between them emit nothing and leave every variable but the counter, `n` and the tick request as it
was. -/
def Obligations.TimelyKicksPreventEveryTimeout : Prop :=
  ∀ (s : State) (nr se : Bool) (gaps : List Nat),
    s.vars.control1.getLsbD 11 = false → 2 ≤ s.vars.timerValue.toNat → s.vars.timerValue.toNat ≤ 0x03ff →
    (∀ g ∈ gaps, g < s.vars.timerValue.toNat) →
    runEvents (gaps.flatMap (fun g => kick :: ticks g nr se)) s = [] ∧
    ∃ (c : Word) (k : BitVec 2) (p : Bool), (runState (gaps.flatMap (fun g => kick :: ticks g nr se)) s).vars =
      { s.vars with reloadCounter := c, n := k, tickPending := p }

/-- The race of a kick with the expiring tick (R188): kick first, no timeout and `n` = 0; tick first, a timeout counted, its interrupt
emitted and its bit left set, and then `n` = 0. Both orders are runs of the
model, as the spec decides (92 D14). -/
def Obligations.KickAndExpiringTickInBothOrders : Prop :=
  ∀ (s : State) (nr se : Bool),
    s.vars.tickPending = true → s.vars.resetLatched = false → s.vars.control1.getLsbD 11 = false →
    2 ≤ s.vars.timerValue.toNat → s.vars.timerValue.toNat ≤ 0x03ff → s.vars.n = 0#2 →
    (s.vars.reloadCounter - 1#16) &&& 0x03ff#16 = 0x0000#16 →
    runEvents [kick, .tick nr se] s = [] ∧
    (runState [kick, .tick nr se] s).vars = { s.vars with reloadCounter := s.vars.timerValue - 1#16 } ∧
    runEvents [.tick nr se, kick] s = [if se then .smi else .nmi] ∧
    (runState [.tick nr se, kick] s).vars =
      { s.vars with reloadCounter := s.vars.timerValue, status1 := s.vars.status1 ||| 0x0008#16 }

/-! ## The timed refinement (41 R148) and the pin-level rendering (00_scope R11) -/

/-- "The untimed model has every run the timed one has" (R148): the operations of a timed run, run untimed, reach the timed run's block,
and the clock shows the time waited. That time is a natural number is the model's choice (log 9). -/
def Obligations.TimedRunsAreUntimedRuns : Prop :=
  ∀ (interval : Nat) (actions : List TimedAction) (ts us : TimedState),
    timedRun interval actions ts = some us →
    us.block = runState (opsOf actions) ts.block ∧ us.now = ts.now + timeOf actions

/-- The deadline stands in place of the bit (R148): a timed block that has a deadline exactly while a tick is pending keeps it so under
every action. That the deadline is then never in the past is the model's choice (log 9: time does not pass a standing deadline). -/
def Obligations.DeadlineStandsForPendingTick : Prop :=
  ∀ (interval : Nat) (a : TimedAction) (ts us : TimedState),
    ts.deadline.isSome = ts.block.vars.tickPending → (∀ d ∈ ts.deadline, ts.now ≤ d) →
    timedStep interval a ts = some us →
    us.deadline.isSome = us.block.vars.tickPending ∧ (∀ d ∈ us.deadline, us.now ≤ d)

/-- Each scheduling starts a fresh full interval (R148, the spec's own decision, 92 D25): while kicks of an armable block that is not
latched follow one another in less than an interval, the run goes on, the tick is due one whole interval after the last kick, and no
`TICK` can happen. -/
def Obligations.TimedKickRestartsInterval : Prop :=
  ∀ (interval : Nat) (ts : TimedState) (waits : List Nat) (d : Nat),
    ts.block.vars.resetLatched = false → ts.block.vars.control1.getLsbD 11 = false →
    2 ≤ ts.block.vars.timerValue.toNat → (∀ w ∈ waits, w < interval) → d < interval →
    ∃ us : TimedState,
      timedRun interval ((waits ++ [d]).flatMap (fun w => [.op kick, .wait w])) ts = some us ∧
      us.now = ts.now + waits.sum + d ∧ us.deadline = some (ts.now + waits.sum + interval) ∧
      ∀ nr se : Bool, mayPerform (.tick nr se) us = false

/-- The pin-level cycle (R11, the spec's own rendering, 92 D2): it performs the operations its inputs ask for, and each pulsed wire gets
one pulse for each event emitted and for each step that sets, renews or cancels the tick request. Without `rst`: an access alone is the
bus access, a tick alone the `TICK`, an idle cycle nothing, and an access and a tick together are the two in the order `o` says (R188),
the pulses of both counted and `rdata` being the register as the read finds it. `rst` leaves the reset values whatever coincides with it:
the cycle is `INIT` alone, or the same cycle without `rst` and then `INIT`. The order `o`, and that `tick_fire` finds `tick_pending` as it
is at the `TICK`'s place in the order, are the model's choices (log 10); that `tick_cancel` shows as it does is log 4. -/
def Obligations.PinCyclePerformsRequestedOperations : Prop :=
  ∀ (o : PinOrder) (p : PinInputs) (s : State),
    (p.rst = true →
      (cycle o p s).1.vars = Vars.reset ∧
      (o.beforeReset = false →
        exec .init s = .next (cycle o p s).1 ∧
        (cycle o p s).2 = ⟨none, 0, 0, 0, 0, s.vars.tickPending.toNat⟩) ∧
      (o.beforeReset = true → ∀ (u : State) (w : PinOutputs), cycle o { p with rst := false } s = (u, w) →
        exec .init u = .next (cycle o p s).1 ∧
        (cycle o p s).2 = { w with tickCancel := w.tickCancel + u.vars.tickPending.toNat })) ∧
    (p.rst = false → p.sel = true → p.wr = false → p.tickFire = false →
      (cycle o p s).1.vars = s.vars ∧ (cycle o p s).2 = ⟨some (regRead p.off s.vars), 0, 0, 0, 0, 0⟩) ∧
    (p.rst = false → p.sel = true → p.wr = true → p.tickFire = false →
      ∃ t : State, regWrite p.off p.wdata s = .next t ∧
        cycle o p s = (t, ⟨none, t.out.events.count .smi, t.out.events.count .nmi,
          t.out.events.count .wdtReset, t.out.tickReq.toNat, t.out.tickCancel.toNat⟩)) ∧
    (p.rst = false → p.sel = false → p.tickFire = true →
      ∃ t : State, exec (.tick p.noReboot p.smiEn) s = .next t ∧
        cycle o p s = (t, ⟨none, t.out.events.count .smi, t.out.events.count .nmi,
          t.out.events.count .wdtReset, t.out.tickReq.toNat, t.out.tickCancel.toNat⟩)) ∧
    (p.rst = false → p.sel = true → p.tickFire = true →
      ∀ (access tick : Instr) (ops : List Instr),
        access = decode (if p.wr then writeWord p.off p.wdata else readWord p.off) →
        tick = .tick p.noReboot p.smiEn →
        ops = (if o.tickFirst then [tick, access] else [access, tick]) →
        (cycle o p s).1 = runState ops s ∧
        (cycle o p s).2 =
          ⟨if p.wr then none else some (regRead p.off (if o.tickFirst then runState [tick] s else s).vars),
            (runEvents ops s).count .smi, (runEvents ops s).count .nmi, (runEvents ops s).count .wdtReset,
            (runOutputs ops s).countP (fun out => out.tickReq), (runOutputs ops s).countP (fun out => out.tickCancel)⟩) ∧
    (p.rst = false → p.sel = false → p.tickFire = false →
      (cycle o p s).1 = s ∧ (cycle o p s).2 = ⟨none, 0, 0, 0, 0, 0⟩)
end

