-- ==== Sys2Proof/Laws/Decode.lean ====
section
/-! SUPPORT. The fields of a word made from fields, and the two masks of the opcode table as selections of fields. -/

namespace Sys2Proof

theorem opWord_getLsbD (k : BitVec 2) (off : Offset) (v : Word) (i : Nat) :
    (opWord k off v).getLsbD i =
      if i < 16 then v.getLsbD i else if i < 32 then off.getLsbD (i - 16) else k.getLsbD (i - 32) := by
  simp only [opWord, BitVec.getLsbD_append]
  split
  · rfl
  · rw [show i - 16 - 16 = i - 32 by omega]
    simp only [show (i - 16 < 16) ↔ i < 32 by omega]

@[simp] theorem kindField_opWord (k : BitVec 2) (off : Offset) (v : Word) : kindField (opWord k off v) = k := by
  apply BitVec.eq_of_getLsbD_eq
  intro i hi
  simp [kindField, opWord_getLsbD, hi, show ¬ 32 + i < 16 by omega]

@[simp] theorem offField_opWord (k : BitVec 2) (off : Offset) (v : Word) : offField (opWord k off v) = off := by
  apply BitVec.eq_of_getLsbD_eq
  intro i hi
  simp [offField, opWord_getLsbD, hi, show 16 + i < 32 by omega]

@[simp] theorem valField_opWord (k : BitVec 2) (off : Offset) (v : Word) : valField (opWord k off v) = v := by
  apply BitVec.eq_of_getLsbD_eq
  intro i hi
  simp [valField, opWord_getLsbD, hi]

/-- A word is its three fields. -/
theorem opWord_fields (w : OpWord) : opWord (kindField w) (offField w) (valField w) = w := by
  apply BitVec.eq_of_getLsbD_eq
  intro i hi
  rw [opWord_getLsbD]
  split
  · simp [valField, *]
  · split
    · simp [offField, show i - 16 < 16 by omega, show 16 + (i - 16) = i by omega]
    · simp [kindField, show i - 32 < 2 by omega, show 32 + (i - 32) = i by omega]

/-- The mask 0x3FFFF0000 keeps `kind` and `off`. -/
theorem and_exactMask (w : OpWord) : w &&& 0x3FFFF0000#34 = opWord (kindField w) (offField w) 0#16 := by
  have hm : ∀ i, i < 34 → (0x3FFFF0000#34).getLsbD i = decide (16 ≤ i) := by decide
  apply BitVec.eq_of_getLsbD_eq
  intro i hi
  rw [BitVec.getLsbD_and, hm i hi, opWord_getLsbD]
  split
  · simp [show ¬ 16 ≤ i by omega]
  · split
    · simp [offField, show 16 ≤ i by omega, show i - 16 < 16 by omega, show 16 + (i - 16) = i by omega]
    · simp [kindField, show 16 ≤ i by omega, show i - 32 < 2 by omega, show 32 + (i - 32) = i by omega]

/-- The mask 0x300000000 keeps `kind`. -/
theorem and_kindMask (w : OpWord) : w &&& 0x300000000#34 = opWord (kindField w) 0#16 0#16 := by
  have hm : ∀ i, i < 34 → (0x300000000#34).getLsbD i = decide (32 ≤ i) := by decide
  apply BitVec.eq_of_getLsbD_eq
  intro i hi
  rw [BitVec.getLsbD_and, hm i hi, opWord_getLsbD]
  split
  · simp [show ¬ 32 ≤ i by omega]
  · split
    · simp [show ¬ 32 ≤ i by omega]
    · simp [kindField, show 32 ≤ i by omega, show i - 32 < 2 by omega, show 32 + (i - 32) = i by omega]

/-! ## Decoding the word of each format -/

@[simp] theorem decode_readWord (off : Offset) : decode (readWord off) = decodeRead off := by
  simp [decode, readWord]

@[simp] theorem decode_writeWord (off : Offset) (v : Word) : decode (writeWord off v) = decodeWrite off v := by
  simp [decode, writeWord]

@[simp] theorem decode_tickWord (nr se : Bool) : decode (tickWord nr se) = .tick nr se := by
  revert nr se; decide

@[simp] theorem decode_initWord : decode initWord = .init := by decide

/-- A fact about the read operation of an offset holds if it holds at each of the twelve and at every unmapped one. -/
theorem decodeRead_cases (P : Offset → Instr → Prop)
    (h0 : P Config.offReload .rdRld) (h1 : P Config.offDataIn .rdDin) (h2 : P Config.offDataOut .rdDout)
    (h3 : P Config.offStatus1 .rdSts1) (h4 : P Config.offStatus2 .rdSts2) (h5 : P Config.offControl1 .rdCnt1)
    (h6 : P Config.offControl2 .rdCnt2) (h7 : P Config.offMessage1 .rdMsg1) (h8 : P Config.offMessage2 .rdMsg2)
    (h9 : P Config.offWatchdogCount .rdWdcnt) (h10 : P Config.offSoftwareIrqGen .rdSwirq) (h11 : P Config.offTimerValue .rdTmr)
    (hu : ∀ off, off ∉ Config.mappedOffsets → P off (.rdUnmapped off)) (off : Offset) : P off (decodeRead off) := by
  by_cases e0 : off = Config.offReload
  · subst e0; exact h0
  by_cases e1 : off = Config.offDataIn
  · subst e1; exact h1
  by_cases e2 : off = Config.offDataOut
  · subst e2; exact h2
  by_cases e3 : off = Config.offStatus1
  · subst e3; exact h3
  by_cases e4 : off = Config.offStatus2
  · subst e4; exact h4
  by_cases e5 : off = Config.offControl1
  · subst e5; exact h5
  by_cases e6 : off = Config.offControl2
  · subst e6; exact h6
  by_cases e7 : off = Config.offMessage1
  · subst e7; exact h7
  by_cases e8 : off = Config.offMessage2
  · subst e8; exact h8
  by_cases e9 : off = Config.offWatchdogCount
  · subst e9; exact h9
  by_cases e10 : off = Config.offSoftwareIrqGen
  · subst e10; exact h10
  by_cases e11 : off = Config.offTimerValue
  · subst e11; exact h11
  rw [decodeRead, if_neg e0, if_neg e1, if_neg e2, if_neg e3, if_neg e4, if_neg e5, if_neg e6, if_neg e7, if_neg e8, if_neg e9, if_neg e10, if_neg e11]
  exact hu off (by simp [Config.mappedOffsets, e0, e1, e2, e3, e4, e5, e6, e7, e8, e9, e10, e11])

/-- The same for the write operation of an offset. -/
theorem decodeWrite_cases (v : Word) (P : Offset → Instr → Prop)
    (h0 : P Config.offReload (.wrRld v)) (h1 : P Config.offDataIn (.wrDin v)) (h2 : P Config.offDataOut (.wrDout v))
    (h3 : P Config.offStatus1 (.wrSts1 v)) (h4 : P Config.offStatus2 (.wrSts2 v)) (h5 : P Config.offControl1 (.wrCnt1 v))
    (h6 : P Config.offControl2 (.wrCnt2 v)) (h7 : P Config.offMessage1 (.wrMsg1 v)) (h8 : P Config.offMessage2 (.wrMsg2 v))
    (h9 : P Config.offWatchdogCount (.wrWdcnt v)) (h10 : P Config.offSoftwareIrqGen (.wrSwirq v)) (h11 : P Config.offTimerValue (.wrTmr v))
    (hu : ∀ off, off ∉ Config.mappedOffsets → P off (.wrUnmapped off v)) (off : Offset) : P off (decodeWrite off v) := by
  by_cases e0 : off = Config.offReload
  · subst e0; exact h0
  by_cases e1 : off = Config.offDataIn
  · subst e1; exact h1
  by_cases e2 : off = Config.offDataOut
  · subst e2; exact h2
  by_cases e3 : off = Config.offStatus1
  · subst e3; exact h3
  by_cases e4 : off = Config.offStatus2
  · subst e4; exact h4
  by_cases e5 : off = Config.offControl1
  · subst e5; exact h5
  by_cases e6 : off = Config.offControl2
  · subst e6; exact h6
  by_cases e7 : off = Config.offMessage1
  · subst e7; exact h7
  by_cases e8 : off = Config.offMessage2
  · subst e8; exact h8
  by_cases e9 : off = Config.offWatchdogCount
  · subst e9; exact h9
  by_cases e10 : off = Config.offSoftwareIrqGen
  · subst e10; exact h10
  by_cases e11 : off = Config.offTimerValue
  · subst e11; exact h11
  rw [decodeWrite, if_neg e0, if_neg e1, if_neg e2, if_neg e3, if_neg e4, if_neg e5, if_neg e6, if_neg e7, if_neg e8, if_neg e9, if_neg e10, if_neg e11]
  exact hu off (by simp [Config.mappedOffsets, e0, e1, e2, e3, e4, e5, e6, e7, e8, e9, e10, e11])

/-- Every word is the word of a read, of a write, of a tick or of `INIT`, up to the bits its kind ignores. -/
theorem decode_by_kind (w : OpWord) :
    (kindField w = 0#2 ∧ decode w = decodeRead (offField w)) ∨
    (kindField w = 1#2 ∧ decode w = decodeWrite (offField w) (valField w)) ∨
    (kindField w = 2#2 ∧ decode w = .tick (w.getLsbD 1) (w.getLsbD 0)) ∨
    (kindField w = 3#2 ∧ decode w = .init) := by
  have hk : ∀ k : BitVec 2, k = 0#2 ∨ k = 1#2 ∨ k = 2#2 ∨ k = 3#2 := by decide
  rcases hk (kindField w) with h | h | h | h
  · exact .inl ⟨h, by simp [decode, h]⟩
  · exact .inr (.inl ⟨h, by simp [decode, h]⟩)
  · exact .inr (.inr (.inl ⟨h, by simp [decode, h]⟩))
  · exact .inr (.inr (.inr ⟨h, by simp [decode, h]⟩))

end Sys2Proof
end

