-- ==== Sys2Proof/Laws/State.lean ====
section
/-! SUPPORT. What each record update of `Machine/Ops.lean` leaves in each part of the state, each true by unfolding: later proofs
rewrite with these and unfold no update. -/

namespace Sys2Proof.Machine

@[simp] theorem begin_vars (s : State) : (begin s).vars = s.vars := rfl
@[simp] theorem begin_out (s : State) : (begin s).out = Output.quiet := rfl
@[simp] theorem begin_params (s : State) : (begin s).params = s.params := rfl
@[simp] theorem begin_inbox (s : State) : (begin s).inbox = s.inbox := rfl

@[simp] theorem emit_vars (e : Event) (s : State) : (emit e s).vars = s.vars := rfl
@[simp] theorem emit_out (e : Event) (s : State) : (emit e s).out = { s.out with events := s.out.events ++ [e] } := rfl
@[simp] theorem emit_params (e : Event) (s : State) : (emit e s).params = s.params := rfl
@[simp] theorem emit_inbox (e : Event) (s : State) : (emit e s).inbox = s.inbox := rfl

@[simp] theorem respond_vars (w : Word) (s : State) : (respond w s).vars = s.vars := rfl
@[simp] theorem respond_out (w : Word) (s : State) : (respond w s).out = { s.out with readValue := some w } := rfl
@[simp] theorem respond_params (w : Word) (s : State) : (respond w s).params = s.params := rfl
@[simp] theorem respond_inbox (w : Word) (s : State) : (respond w s).inbox = s.inbox := rfl

@[simp] theorem setVars_vars (v : Vars) (s : State) : (setVars v s).vars = v := rfl
@[simp] theorem setVars_out (v : Vars) (s : State) : (setVars v s).out = s.out := rfl
@[simp] theorem setVars_params (v : Vars) (s : State) : (setVars v s).params = s.params := rfl
@[simp] theorem setVars_inbox (v : Vars) (s : State) : (setVars v s).inbox = s.inbox := rfl

@[simp] theorem requestTick_vars (s : State) : (requestTick s).vars = { s.vars with tickPending := true } := rfl
@[simp] theorem requestTick_out (s : State) : (requestTick s).out = { s.out with tickReq := true } := rfl
@[simp] theorem requestTick_params (s : State) : (requestTick s).params = s.params := rfl
@[simp] theorem requestTick_inbox (s : State) : (requestTick s).inbox = s.inbox := rfl

@[simp] theorem cancelTick_vars (s : State) : (cancelTick s).vars = { s.vars with tickPending := false } := rfl
@[simp] theorem cancelTick_out (s : State) : (cancelTick s).out = { s.out with tickCancel := s.out.tickCancel || s.vars.tickPending } := rfl
@[simp] theorem cancelTick_params (s : State) : (cancelTick s).params = s.params := rfl
@[simp] theorem cancelTick_inbox (s : State) : (cancelTick s).inbox = s.inbox := rfl

@[simp] theorem consumeTick_vars (s : State) : (consumeTick s).vars = { s.vars with tickPending := false } := rfl
@[simp] theorem consumeTick_out (s : State) : (consumeTick s).out = s.out := rfl
@[simp] theorem consumeTick_params (s : State) : (consumeTick s).params = s.params := rfl
@[simp] theorem consumeTick_inbox (s : State) : (consumeTick s).inbox = s.inbox := rfl

@[simp] theorem reloadFromTimer_vars (s : State) : (reloadFromTimer s).vars = { s.vars with reloadCounter := s.vars.timerValue } := rfl
@[simp] theorem reloadFromTimer_out (s : State) : (reloadFromTimer s).out = s.out := rfl
@[simp] theorem reloadFromTimer_params (s : State) : (reloadFromTimer s).params = s.params := rfl
@[simp] theorem reloadFromTimer_inbox (s : State) : (reloadFromTimer s).inbox = s.inbox := rfl

@[simp] theorem clearTimeoutCount_vars (s : State) : (clearTimeoutCount s).vars = { s.vars with n := 0#2 } := rfl
@[simp] theorem clearTimeoutCount_out (s : State) : (clearTimeoutCount s).out = s.out := rfl
@[simp] theorem clearTimeoutCount_params (s : State) : (clearTimeoutCount s).params = s.params := rfl
@[simp] theorem clearTimeoutCount_inbox (s : State) : (clearTimeoutCount s).inbox = s.inbox := rfl

@[simp] theorem decrement_vars (s : State) : (decrement s).vars = { s.vars with reloadCounter := s.vars.reloadCounter - 1#16 } := rfl
@[simp] theorem decrement_out (s : State) : (decrement s).out = s.out := rfl
@[simp] theorem decrement_params (s : State) : (decrement s).params = s.params := rfl
@[simp] theorem decrement_inbox (s : State) : (decrement s).inbox = s.inbox := rfl

@[simp] theorem requestReset_vars (s : State) : (requestReset s).vars = { s.vars with tickPending := false, resetLatched := true } := rfl
@[simp] theorem requestReset_out (s : State) : (requestReset s).out = { s.out with events := s.out.events ++ [.wdtReset] } := rfl
@[simp] theorem requestReset_params (s : State) : (requestReset s).params = s.params := rfl
@[simp] theorem requestReset_inbox (s : State) : (requestReset s).inbox = s.inbox := rfl

@[simp] theorem present_vars (w : OpWord) (s : State) : (present w s).vars = s.vars := rfl
@[simp] theorem present_out (w : OpWord) (s : State) : (present w s).out = s.out := rfl
@[simp] theorem present_params (w : OpWord) (s : State) : (present w s).params = s.params := rfl
@[simp] theorem present_inbox (w : OpWord) (s : State) : (present w s).inbox = w :: s.inbox := rfl

@[simp] theorem idle_vars (s : State) : (idle s).vars = s.vars := rfl
@[simp] theorem idle_out (s : State) : (idle s).out = Output.quiet := rfl
@[simp] theorem idle_params (s : State) : (idle s).params = s.params := rfl
@[simp] theorem idle_inbox (s : State) : (idle s).inbox = s.inbox := rfl

/-! The flags the block sets, part by part. -/

@[simp] theorem setTimeout_eq (v : Vars) : setTimeout v = { v with status1 := v.status1 ||| 0x0008#16 } := rfl

@[simp] theorem setSoftwareSmi_eq (v : Vars) : setSoftwareSmi v = { v with status1 := v.status1 ||| 0x0002#16 } := rfl

@[simp] theorem setInternalInterrupt_eq (v : Vars) :
    setInternalInterrupt v = { v with status1 := v.status1 ||| 0x0004#16 } := rfl

theorem setSecondTimeout_eq (p : Config.Params) (v : Vars) :
    setSecondTimeout p v =
      { v with status1 := if p.escSts2 then v.status1 else v.status1 ||| 0x0006#16,
               status2 := if p.escSts2 then v.status2 ||| 0x0006#16 else v.status2 } := by
  unfold setSecondTimeout
  cases p.escSts2 <;> rfl

end Sys2Proof.Machine
end

