-- ==== Sys2Proof/Laws/Ops.lean ====
section
/-! SUPPORT. One lemma per shared operation: everything it can do, said once. A proof cites these and unfolds none of the operations. -/

namespace Sys2Proof.Machine

theorem armable_iff (v : Vars) : armable v = true ↔ v.control1.getLsbD 11 = false ∧ 1 < v.timerValue.toNat := by
  simp only [armable, halted, Config.haltBit, Bool.and_eq_true, Bool.not_eq_true', decide_eq_true_eq, BitVec.le_def]
  rfl

/-- Arming, on a block that is not latched: the counter loaded and a tick asked for. -/
theorem arm_unlatched (s : State) (h : s.vars.resetLatched = false) :
    arm s = { s with vars := { s.vars with reloadCounter := s.vars.timerValue, tickPending := true },
                     out := { s.out with tickReq := true } } := by
  simp [arm, h, requestTick, reloadFromTimer, setVars]

/-- Arming, on a latched block: the counter loaded and nothing asked for. -/
theorem arm_latched (s : State) (h : s.vars.resetLatched = true) :
    arm s = { s with vars := { s.vars with reloadCounter := s.vars.timerValue } } := by
  simp [arm, h, reloadFromTimer, setVars]

/-- Disarming: no tick pending, `n` cleared, and a cancellation to be seen exactly if a tick was pending. -/
theorem disarm_eq (s : State) :
    disarm s = { s with vars := { s.vars with tickPending := false, n := 0#2 },
                        out := { s.out with tickCancel := s.out.tickCancel || s.vars.tickPending } } := rfl

/-- The interrupt path emits exactly one event, by `smi_en`. -/
theorem deliverInterrupt_eq (se : Bool) (s : State) :
    deliverInterrupt se s = emit (if se then .smi else .nmi) s := by
  cases se <;> rfl

/-- Everything `Escalate` can do: a first timeout (any count but 1), a second one with the reset suppressed, a second one that asks
for the reset. -/
theorem escalate_cases (nr se : Bool) (s : State) :
    (s.vars.n ≠ 1#2 ∧
      escalate nr se s = emit (if se then .smi else .nmi) (countTimeout s)) ∨
    (s.vars.n = 1#2 ∧ nr = true ∧
      escalate nr se s = emit (if se then .smi else .nmi) (markSecondTimeout (countTimeout s))) ∨
    (s.vars.n = 1#2 ∧ nr = false ∧
      escalate nr se s = requestReset (markSecondTimeout (countTimeout s))) := by
  have hn : (countTimeout s).vars.n = Config.escalationLimit ↔ s.vars.n = 1#2 := by
    show s.vars.n + 1#2 = 2#2 ↔ s.vars.n = 1#2
    generalize s.vars.n = k
    revert k; decide
  unfold escalate
  by_cases h : s.vars.n = 1#2
  · rw [if_pos (hn.mpr h)]
    cases nr
    · exact .inr (.inr ⟨h, rfl, rfl⟩)
    · exact .inr (.inl ⟨h, rfl, by simp [deliverInterrupt_eq]⟩)
  · rw [if_neg (fun c => h (hn.mp c))]
    exact .inl ⟨h, deliverInterrupt_eq se _⟩

/-- The body of a tick: no timeout, and the tick renewed; or a timeout, and what `Escalate` and the reload make of it. -/
theorem countDown_cases (nr se : Bool) (s : State) :
    (expired (s.vars.reloadCounter - 1#16) = false ∧
      countDown nr se s = requestTick (decrement (consumeTick s))) ∨
    (expired (s.vars.reloadCounter - 1#16) = true ∧
      countDown nr se s = reloadAfterTimeout (escalate nr se (decrement (consumeTick s)))) := by
  cases h : expired (s.vars.reloadCounter - 1#16)
  · exact .inl ⟨rfl, by simp [countDown, h]⟩
  · exact .inr ⟨rfl, by simp [countDown, h]⟩

/-- The reload of a timeout that did not latch. -/
theorem reloadAfterTimeout_unlatched (s : State) (h : s.vars.resetLatched = false) :
    reloadAfterTimeout s = requestTick (reloadFromTimer s) := by
  simp [reloadAfterTimeout, h]

/-- After `WDT_RESET` nothing is reloaded and nothing asked for. -/
theorem reloadAfterTimeout_latched (s : State) (h : s.vars.resetLatched = true) : reloadAfterTimeout s = s := by
  simp [reloadAfterTimeout, h]

@[simp] theorem initialise_vars (s : State) : (initialise s).vars = Vars.reset := rfl
@[simp] theorem initialise_params (s : State) : (initialise s).params = s.params := rfl
@[simp] theorem initialise_inbox (s : State) : (initialise s).inbox = s.inbox := rfl
@[simp] theorem initialise_out (s : State) :
    (initialise s).out = { s.out with tickCancel := s.out.tickCancel || s.vars.tickPending } := rfl

@[simp] theorem fetch_nil (s : State) (h : s.inbox = []) : fetch s = none := by simp [fetch, h]

theorem fetch_cons (s : State) (w : OpWord) (rest : List OpWord) (h : s.inbox = w :: rest) :
    fetch s = some (decode w, { s with inbox := rest }) := by simp [fetch, h]

theorem reloadAfterTimeout_keeps (s : State) :
    (reloadAfterTimeout s).params = s.params ∧ (reloadAfterTimeout s).inbox = s.inbox := by
  unfold reloadAfterTimeout; split <;> exact ⟨rfl, rfl⟩

/-- No operation of `Ops.lean` touches the parameter or the operations still to come. -/
theorem countDown_keeps (nr se : Bool) (s : State) :
    (countDown nr se s).params = s.params ∧ (countDown nr se s).inbox = s.inbox := by
  rcases countDown_cases nr se s with ⟨_, h⟩ | ⟨_, h⟩ <;> rw [h]
  · exact ⟨rfl, rfl⟩
  · rcases escalate_cases nr se (decrement (consumeTick s)) with ⟨_, e⟩ | ⟨_, _, e⟩ | ⟨_, _, e⟩ <;> rw [e] <;>
      exact reloadAfterTimeout_keeps _

/-- Arming touches neither. -/
theorem arm_keeps (s : State) : (arm s).params = s.params ∧ (arm s).inbox = s.inbox := by
  unfold arm; split <;> exact ⟨rfl, rfl⟩

end Sys2Proof.Machine
end

