-- ==== Sys2Proof/Laws/PerInstr.lean ====
section
/-! SUPPORT. A fact about every instruction as syntax, one lemma per constructor: the word an instruction is encoded to belongs to the
row of the opcode table that bears its mnemonic (30_encoding R82). -/

namespace Sys2Proof.Laws.EncodesToItsRow

/-- The row of the table with this instruction's mnemonic is there and matches its word. -/
def Statement (i : Instr) : Prop :=
  i.wellFormed = true →
    ∃ r ∈ exactRows ++ fallThroughRows, r.mnemonic = i.mnemonic ∧ r.matches (encode i) = true

/-- A row of mask 0x3FFFF0000 matches a word of its own kind and offset, whatever the low bits. -/
theorem exact_matches (name : String) (k : BitVec 2) (off : Offset) (v : Word) (p : OpWord) (h : opWord k off 0#16 = p) :
    (Row.mk name p 0x3FFFF0000#34).matches (opWord k off v) = true := by
  simp [Row.matches, and_exactMask, h]

/-- A row of mask 0x300000000 matches a word of its own kind. -/
theorem kind_matches (name : String) (k : BitVec 2) (off : Offset) (v : Word) (p : OpWord) (h : opWord k 0#16 0#16 = p) :
    (Row.mk name p 0x300000000#34).matches (opWord k off v) = true := by
  simp [Row.matches, and_kindMask, h]

theorem rdRld : Statement (.rdRld) := fun _ =>
  ⟨⟨"RD_RLD", 0x000000000#34, 0x3FFFF0000#34⟩, by decide, rfl, exact_matches _ _ _ _ _ (by decide)⟩

theorem rdDin : Statement (.rdDin) := fun _ =>
  ⟨⟨"RD_DIN", 0x000020000#34, 0x3FFFF0000#34⟩, by decide, rfl, exact_matches _ _ _ _ _ (by decide)⟩

theorem rdDout : Statement (.rdDout) := fun _ =>
  ⟨⟨"RD_DOUT", 0x000030000#34, 0x3FFFF0000#34⟩, by decide, rfl, exact_matches _ _ _ _ _ (by decide)⟩

theorem rdSts1 : Statement (.rdSts1) := fun _ =>
  ⟨⟨"RD_STS1", 0x000040000#34, 0x3FFFF0000#34⟩, by decide, rfl, exact_matches _ _ _ _ _ (by decide)⟩

theorem rdSts2 : Statement (.rdSts2) := fun _ =>
  ⟨⟨"RD_STS2", 0x000060000#34, 0x3FFFF0000#34⟩, by decide, rfl, exact_matches _ _ _ _ _ (by decide)⟩

theorem rdCnt1 : Statement (.rdCnt1) := fun _ =>
  ⟨⟨"RD_CNT1", 0x000080000#34, 0x3FFFF0000#34⟩, by decide, rfl, exact_matches _ _ _ _ _ (by decide)⟩

theorem rdCnt2 : Statement (.rdCnt2) := fun _ =>
  ⟨⟨"RD_CNT2", 0x0000A0000#34, 0x3FFFF0000#34⟩, by decide, rfl, exact_matches _ _ _ _ _ (by decide)⟩

theorem rdMsg1 : Statement (.rdMsg1) := fun _ =>
  ⟨⟨"RD_MSG1", 0x0000C0000#34, 0x3FFFF0000#34⟩, by decide, rfl, exact_matches _ _ _ _ _ (by decide)⟩

theorem rdMsg2 : Statement (.rdMsg2) := fun _ =>
  ⟨⟨"RD_MSG2", 0x0000D0000#34, 0x3FFFF0000#34⟩, by decide, rfl, exact_matches _ _ _ _ _ (by decide)⟩

theorem rdWdcnt : Statement (.rdWdcnt) := fun _ =>
  ⟨⟨"RD_WDCNT", 0x0000E0000#34, 0x3FFFF0000#34⟩, by decide, rfl, exact_matches _ _ _ _ _ (by decide)⟩

theorem rdSwirq : Statement (.rdSwirq) := fun _ =>
  ⟨⟨"RD_SWIRQ", 0x000100000#34, 0x3FFFF0000#34⟩, by decide, rfl, exact_matches _ _ _ _ _ (by decide)⟩

theorem rdTmr : Statement (.rdTmr) := fun _ =>
  ⟨⟨"RD_TMR", 0x000120000#34, 0x3FFFF0000#34⟩, by decide, rfl, exact_matches _ _ _ _ _ (by decide)⟩

theorem rdUnmapped (off : Offset) : Statement (.rdUnmapped off) := fun _ =>
  ⟨⟨"RD_UNMAPPED", 0x000000000#34, 0x300000000#34⟩, by decide, rfl, kind_matches _ _ _ _ _ (by decide)⟩

theorem wrRld (v : Word) : Statement (.wrRld v) := fun _ =>
  ⟨⟨"WR_RLD", 0x100000000#34, 0x3FFFF0000#34⟩, by decide, rfl, exact_matches _ _ _ _ _ (by decide)⟩

theorem wrDin (v : Word) : Statement (.wrDin v) := fun _ =>
  ⟨⟨"WR_DIN", 0x100020000#34, 0x3FFFF0000#34⟩, by decide, rfl, exact_matches _ _ _ _ _ (by decide)⟩

theorem wrDout (v : Word) : Statement (.wrDout v) := fun _ =>
  ⟨⟨"WR_DOUT", 0x100030000#34, 0x3FFFF0000#34⟩, by decide, rfl, exact_matches _ _ _ _ _ (by decide)⟩

theorem wrSts1 (v : Word) : Statement (.wrSts1 v) := fun _ =>
  ⟨⟨"WR_STS1", 0x100040000#34, 0x3FFFF0000#34⟩, by decide, rfl, exact_matches _ _ _ _ _ (by decide)⟩

theorem wrSts2 (v : Word) : Statement (.wrSts2 v) := fun _ =>
  ⟨⟨"WR_STS2", 0x100060000#34, 0x3FFFF0000#34⟩, by decide, rfl, exact_matches _ _ _ _ _ (by decide)⟩

theorem wrCnt1 (v : Word) : Statement (.wrCnt1 v) := fun _ =>
  ⟨⟨"WR_CNT1", 0x100080000#34, 0x3FFFF0000#34⟩, by decide, rfl, exact_matches _ _ _ _ _ (by decide)⟩

theorem wrCnt2 (v : Word) : Statement (.wrCnt2 v) := fun _ =>
  ⟨⟨"WR_CNT2", 0x1000A0000#34, 0x3FFFF0000#34⟩, by decide, rfl, exact_matches _ _ _ _ _ (by decide)⟩

theorem wrMsg1 (v : Word) : Statement (.wrMsg1 v) := fun _ =>
  ⟨⟨"WR_MSG1", 0x1000C0000#34, 0x3FFFF0000#34⟩, by decide, rfl, exact_matches _ _ _ _ _ (by decide)⟩

theorem wrMsg2 (v : Word) : Statement (.wrMsg2 v) := fun _ =>
  ⟨⟨"WR_MSG2", 0x1000D0000#34, 0x3FFFF0000#34⟩, by decide, rfl, exact_matches _ _ _ _ _ (by decide)⟩

theorem wrWdcnt (v : Word) : Statement (.wrWdcnt v) := fun _ =>
  ⟨⟨"WR_WDCNT", 0x1000E0000#34, 0x3FFFF0000#34⟩, by decide, rfl, exact_matches _ _ _ _ _ (by decide)⟩

theorem wrSwirq (v : Word) : Statement (.wrSwirq v) := fun _ =>
  ⟨⟨"WR_SWIRQ", 0x100100000#34, 0x3FFFF0000#34⟩, by decide, rfl, exact_matches _ _ _ _ _ (by decide)⟩

theorem wrTmr (v : Word) : Statement (.wrTmr v) := fun _ =>
  ⟨⟨"WR_TMR", 0x100120000#34, 0x3FFFF0000#34⟩, by decide, rfl, exact_matches _ _ _ _ _ (by decide)⟩

theorem wrUnmapped (off : Offset) (v : Word) : Statement (.wrUnmapped off v) := fun _ =>
  ⟨⟨"WR_UNMAPPED", 0x100000000#34, 0x300000000#34⟩, by decide, rfl, kind_matches _ _ _ _ _ (by decide)⟩

theorem tick (nr se : Bool) : Statement (.tick nr se) := fun _ =>
  ⟨⟨"TICK", 0x200000000#34, 0x300000000#34⟩, by decide, rfl, kind_matches _ _ _ _ _ (by decide)⟩

theorem init : Statement (.init) := fun _ =>
  ⟨⟨"INIT", 0x300000000#34, 0x300000000#34⟩, by decide, rfl, kind_matches _ _ _ _ _ (by decide)⟩

end Sys2Proof.Laws.EncodesToItsRow
end

