-- ==== Sys2Proof/Laws/Runs.lean ====
section
/-! SUPPORT. Sequences of operations unfolded one operation at a time, and the operations of a pin-level cycle by its inputs. -/

namespace Sys2Proof.Machine

@[simp] theorem runState_nil (s : State) : runState [] s = s := rfl
@[simp] theorem runOutputs_nil (s : State) : runOutputs [] s = [] := rfl
@[simp] theorem runEvents_nil (s : State) : runEvents [] s = [] := rfl

theorem runState_cons {i : Instr} {s t : State} (h : exec i s = .next t) (rest : List Instr) :
    runState (i :: rest) s = runState rest t := by simp [runState, h]

theorem runOutputs_cons {i : Instr} {s t : State} (h : exec i s = .next t) (rest : List Instr) :
    runOutputs (i :: rest) s = t.out :: runOutputs rest t := by simp [runOutputs, h]

theorem runEvents_cons {i : Instr} {s t : State} (h : exec i s = .next t) (rest : List Instr) :
    runEvents (i :: rest) s = t.out.events ++ runEvents rest t := by simp [runEvents, runOutputs_cons h]

/-! ## The pin-level cycle -/

@[simp] theorem cycle_state (o : PinOrder) (p : PinInputs) (s : State) : (cycle o p s).1 = runState (cycleOps o p) s := rfl
@[simp] theorem cycle_wires (o : PinOrder) (p : PinInputs) (s : State) :
    (cycle o p s).2 = pinOutputs (runOutputs (cycleOps o p) s) := rfl

/-- Everything a cycle without `rst` can perform. -/
theorem cycleOps_running (o : PinOrder) (p : PinInputs) (h : p.rst = false) :
    cycleOps o p = if o.tickFirst then pinTick p ++ pinAccess p else pinAccess p ++ pinTick p := by simp [cycleOps, h]

/-- A cycle with `rst` performs `INIT` last, and nothing else or what the same cycle performs without it. -/
theorem cycleOps_reset (o : PinOrder) (p : PinInputs) (h : p.rst = true) :
    cycleOps o p = if o.beforeReset then cycleOps o { p with rst := false } ++ [.init] else [.init] := by
  simp [cycleOps, h, pinTick, pinAccess]

@[simp] theorem eventPulses_nil (e : Event) : eventPulses e [] = 0 := rfl
@[simp] theorem eventPulses_cons (e : Event) (out : Output) (outs : List Output) :
    eventPulses e (out :: outs) = out.events.count e + eventPulses e outs := by simp [eventPulses, List.count_append]

/-- The pulses of an event during a sequence are the times the sequence emits it. -/
@[simp] theorem eventPulses_runOutputs (e : Event) (ops : List Instr) (s : State) :
    eventPulses e (runOutputs ops s) = (runEvents ops s).count e := rfl

@[simp] theorem pinOutputs_nil : pinOutputs [] = ⟨none, 0, 0, 0, 0, 0⟩ := rfl

/-- The wires of a sequence: each pulsed wire adds up, and the first read value is shown. -/
theorem pinOutputs_cons (out : Output) (outs : List Output) :
    pinOutputs (out :: outs) =
      ⟨out.readValue.or (pinOutputs outs).rdata, out.events.count .smi + (pinOutputs outs).smi,
        out.events.count .nmi + (pinOutputs outs).nmi, out.events.count .wdtReset + (pinOutputs outs).wdtReset,
        out.tickReq.toNat + (pinOutputs outs).tickReq, out.tickCancel.toNat + (pinOutputs outs).tickCancel⟩ := by
  have h : ∀ b : Bool, (if b then 1 else 0) = b.toNat := by decide
  simp only [pinOutputs, List.findSome?_cons, List.countP_cons, eventPulses_cons, h, PinOutputs.mk.injEq, true_and]
  exact ⟨by cases out.readValue <;> rfl, Nat.add_comm _ _, Nat.add_comm _ _⟩

/-- The wires of one operation are its outputs. -/
theorem pinOutputs_one (out : Output) :
    pinOutputs [out] = ⟨out.readValue, out.events.count .smi, out.events.count .nmi, out.events.count .wdtReset,
      out.tickReq.toNat, out.tickCancel.toNat⟩ := by
  simp [pinOutputs_cons]

end Sys2Proof.Machine
end

