-- ==== Sys2Proof/Tests/Slice0.lean ====
section
/-! SUPPORT. Tests: the ill-formed terms refused, each constructor's word written out from 30_encoding R82, one-step checks taken from
95_test_vectors, and for each statement with hypotheses a concrete case that meets them. -/

open Sys2Proof Sys2Proof.Machine

namespace Sys2Proof.Tests

/-- The reset state with the countdown's variables given. -/
def blockWith (rld tmr c1 : Word) (n : BitVec 2) (pend latch : Bool) : State :=
  { State.reset with
    vars := { Vars.reset with reloadCounter := rld, timerValue := tmr, control1 := c1, n := n, tickPending := pend,
                              resetLatched := latch } }

/-- The same with `P_ESC_STS2` true. -/
def blockEsc2 (rld tmr c1 : Word) (n : BitVec 2) (pend latch : Bool) : State :=
  { blockWith rld tmr c1 n pend latch with params := { escSts2 := true } }

/-- The variables and outputs after one operation. -/
def after (i : Instr) (s : State) : Option (Vars × Output) :=
  match exec i s with
  | .next t => some (t.vars, t.out)
  | .fault _ => none
  | .refused _ => none

/-- The value a read returns. -/
def readBack (i : Instr) (s : State) : Option Word := (after i s).bind (fun p => p.2.readValue)

/-! ## Well-formedness refuses the ill-formed terms (30_encoding R85) -/

theorem test_mapped_offset_is_no_unmapped_read : Instr.wellFormed (.rdUnmapped 0x0000#16) = false := by decide
theorem test_last_mapped_offset_is_no_unmapped_read : Instr.wellFormed (.rdUnmapped 0x0012#16) = false := by decide
theorem test_mapped_offset_is_no_unmapped_write : Instr.wellFormed (.wrUnmapped 0x0004#16 0xFFFF#16) = false := by decide

/-! ## Every constructor's word, from 30_encoding R82 -/

theorem test_decode_read_words :
    decode 0x000000000#34 = .rdRld ∧ decode 0x000020000#34 = .rdDin ∧ decode 0x000030000#34 = .rdDout ∧
    decode 0x000040000#34 = .rdSts1 ∧ decode 0x000060000#34 = .rdSts2 ∧ decode 0x000080000#34 = .rdCnt1 ∧
    decode 0x0000A0000#34 = .rdCnt2 ∧ decode 0x0000C0000#34 = .rdMsg1 ∧ decode 0x0000D0000#34 = .rdMsg2 ∧
    decode 0x0000E0000#34 = .rdWdcnt ∧ decode 0x000100000#34 = .rdSwirq ∧ decode 0x000120000#34 = .rdTmr ∧
    decode 0x000200000#34 = .rdUnmapped 0x0020#16 := by decide

theorem test_decode_write_words :
    decode 0x100001234#34 = .wrRld 0x1234#16 ∧ decode 0x1000200A5#34 = .wrDin 0x00A5#16 ∧
    decode 0x10003005A#34 = .wrDout 0x005A#16 ∧ decode 0x100040008#34 = .wrSts1 0x0008#16 ∧
    decode 0x10006FFFF#34 = .wrSts2 0xFFFF#16 ∧ decode 0x100081000#34 = .wrCnt1 0x1000#16 ∧
    decode 0x1000A8001#34 = .wrCnt2 0x8001#16 ∧ decode 0x1000C00FF#34 = .wrMsg1 0x00FF#16 ∧
    decode 0x1000D0100#34 = .wrMsg2 0x0100#16 ∧ decode 0x1000E0002#34 = .wrWdcnt 0x0002#16 ∧
    decode 0x100100003#34 = .wrSwirq 0x0003#16 ∧ decode 0x1001203FF#34 = .wrTmr 0x03FF#16 ∧
    decode 0x100014321#34 = .wrUnmapped 0x0001#16 0x4321#16 := by decide

theorem test_decode_tick_and_init_words :
    decode 0x200000000#34 = .tick false false ∧ decode 0x200000001#34 = .tick false true ∧
    decode 0x200000002#34 = .tick true false ∧ decode 0x200000003#34 = .tick true true ∧
    decode 0x300000000#34 = .init := by decide

theorem test_wide_number_is_rejected_by_name :
    (match decodeNat (2 ^ 34) with
      | .error .widerThanOperationWord => true
      | .ok _ => false) = true ∧
    decodeTableWord 40 (2 ^ 34) = none := by decide

theorem test_table_word : decodeTableWord 40 0x100081000 = some (.wrCnt1 0x1000#16) := by decide

/-- `step` runs the word placed for it as the first operation after reset. -/
theorem test_step_runs_placed_word :
    (match step (State.reset.withFetchWord 40 0x100120003) with
      | .next t => some (t.vars.timerValue, t.inbox)
      | .fault _ => none
      | .refused _ => none) = some (3#16, []) := by decide

/-! ## One-step checks; the expected values are 95_test_vectors' -/

/-- S1. -/
theorem test_reset_reads :
    readBack .rdCnt2 State.reset = some 0x0008#16 ∧ readBack .rdSwirq State.reset = some 0x0003#16 ∧
    readBack .rdTmr State.reset = some 0x0004#16 ∧ readBack .rdRld State.reset = some 0x0000#16 := by decide

/-- S2. -/
theorem test_kick_loads_timer_value : after (.wrRld 0x1234#16) State.reset =
    some ((blockWith 4#16 4#16 0#16 0#2 true false).vars, ⟨none, [], true, false⟩) := by decide

/-- S3, the tick from 0x0001. -/
theorem test_first_timeout_is_nmi : (after (.tick false false) (blockWith 1#16 4#16 0#16 0#2 true false)).map
    (fun p => (p.1.reloadCounter, p.1.status1, p.1.n, p.1.tickPending, p.2.events)) =
    some (4#16, 0x0008#16, 1#2, true, [.nmi]) := by decide

/-- S4b: a status write clears what lies outside the mask. -/
theorem test_status1_write_masks :
    (after (.wrSts1 0x0008#16) { State.reset with vars := { Vars.reset with status1 := 0x000A#16 } }).map (fun p => p.1.status1) =
      some 0x0000#16 ∧
    (after (.wrSts1 0xFFFF#16) State.reset).map (fun p => p.1.status1) = some 0xE870#16 := by decide

/-- S6, the second expiry. -/
theorem test_second_timeout_resets : (after (.tick false true)
    { State.reset with vars := { Vars.reset with reloadCounter := 1#16, status1 := 0x0008#16, n := 1#2, tickPending := true } }).map
    (fun p => (p.1.reloadCounter, p.1.status1, p.1.n, p.1.resetLatched, p.2.events)) =
    some (0x0000#16, 0x000E#16, 0#2, true, [.wdtReset]) := by decide

/-- S7: the lock stays, bit 8 is never stored. -/
theorem test_lock_is_kept :
    (after (.wrCnt1 0x0100#16) (blockWith 4#16 4#16 0x1000#16 0#2 true false)).map (fun p => p.1.control1) = some 0x1000#16 ∧
    (after (.wrCnt1 0xFFFF#16) (blockWith 4#16 4#16 0x1800#16 0#2 false false)).map (fun p => p.1.control1) =
      some 0xFEFF#16 := by decide

/-- S8: halting keeps the counter and cancels the tick. -/
theorem test_stop_disarms : after stop (blockWith 3#16 4#16 0#16 1#2 true false) =
    some ((blockWith 3#16 4#16 0x0800#16 0#2 false false).vars, ⟨none, [], false, true⟩) := by decide

/-- S4b, first write. -/
theorem test_data_in_emits_smi : (after (.wrDin 0x01A5#16) State.reset).map
    (fun p => (p.1.dataIn, p.1.status1, p.2.events)) = some (0xA5#8, 0x0002#16, [.smi]) := by decide

/-! ## Witnesses: the hypotheses of each statement can be met, each clause at a boundary of its range -/

theorem test_witness_decode_encode_round_trip :
    Instr.wellFormed kick = true ∧ Instr.wellFormed (.rdUnmapped 0x0001#16) = true ∧
    Instr.wellFormed (.wrUnmapped 0xFFFF#16 0xFFFF#16) = true ∧ Instr.wellFormed (.tick true true) = true := by decide

theorem test_witness_ignored_bits :
    (kindField 0x00004FFFF#34 = 0#2 ∧ 0x000040000#34 = 0x00004FFFF#34 &&& 0x3FFFF0000#34) ∧
    kindField 0x10004FFFF#34 = 1#2 ∧
    (kindField 0x2FFFFFFFF#34 = 2#2 ∧ 0x200000003#34 = 0x2FFFFFFFF#34 &&& 0x300000003#34) ∧
    (kindField 0x3FFFFFFFF#34 = 3#2 ∧ 0x300000000#34 = 0x3FFFFFFFF#34 &&& 0x300000000#34) := by decide

/-- For the clauses on unmapped offsets (decode, reads, writes, `regRead`, `regWrite`). -/
theorem test_witness_unmapped_offset (off : Offset) (h : off ∈ [0x0001#16, 0x0013#16, 0x0100#16, 0xFFFF#16]) :
    off ∉ [0x00#16, 0x02#16, 0x03#16, 0x04#16, 0x06#16, 0x08#16, 0x0a#16, 0x0c#16, 0x0d#16, 0x0e#16, 0x10#16, 0x12#16] := by
  simp only [List.mem_cons, List.not_mem_nil, or_false] at h
  rcases h with rfl | rfl | rfl | rfl <;> decide

theorem test_witness_step_runs_decoded_operation :
    (State.reset.withFetchWord 40 0x300000000).inbox = 0x300000000#34 :: [] := by decide

theorem test_witness_step_without_operation_idles : State.reset.inbox = [] := by decide

/-- For every statement whose hypothesis is that `exec i s` answers a next state. -/
theorem test_witness_exec_answers :
    (∃ t : State, exec kick State.reset = .next t) ∧
    (∃ t : State, exec (.tick false true) (blockWith 1#16 4#16 0#16 1#2 true false) = .next t) ∧
    (∃ t : State, exec .rdTmr State.reset = .next t ∧ Instr.isRead .rdTmr = true) := ⟨⟨_, rfl⟩, ⟨_, rfl⟩, ⟨_, rfl, rfl⟩⟩

/-- A tick that changes Status1 is neither `WR_STS1` nor `INIT`. -/
theorem test_witness_status1_write_clause :
    (∃ t : State, exec (.tick false false) (blockWith 1#16 4#16 0#16 0#2 true false) = .next t) ∧
    (∀ v : Word, Instr.tick false false ≠ .wrSts1 v) ∧ Instr.tick false false ≠ .init :=
  ⟨⟨_, rfl⟩, fun _ => Instr.noConfusion, by decide⟩

/-- A halted block with no tick pending satisfies the invariants. -/
theorem test_halted_block_sound : Sound (blockWith 3#16 4#16 0x0800#16 1#2 false false) := by constructor <;> decide

/-- A latched block satisfies them. -/
theorem test_latched_block_sound : Sound (blockWith 0#16 4#16 0x1000#16 0#2 false true) := by constructor <;> decide

/-- A running block with one timeout counted satisfies them. -/
theorem test_running_block_sound : Sound (blockWith 1#16 2#16 0#16 1#2 true false) := by constructor <;> decide

theorem test_witness_reload_write :
    ((blockWith 0#16 2#16 0#16 1#2 false false).vars.control1.getLsbD 11 = false ∧
      1 < (blockWith 0#16 2#16 0#16 1#2 false false).vars.timerValue.toNat) ∧
    (blockWith 0#16 1#16 0#16 0#2 false false).vars.timerValue.toNat ≤ 1 ∧
    (Sound (blockWith 3#16 4#16 0x0800#16 1#2 false false) ∧
      (blockWith 3#16 4#16 0x0800#16 1#2 false false).vars.control1.getLsbD 11 = true) :=
  ⟨by decide, by decide, test_halted_block_sound, by decide⟩

theorem test_witness_control1_write :
    (0x1000#16 = (0x0000#16 &&& 0xfeff#16) ||| ((blockWith 0#16 2#16 0x1000#16 0#2 false false).vars.control1 &&& 0x1000#16) ∧
      (0x1000#16 : Word).getLsbD 11 = false ∧ 1 < (blockWith 0#16 2#16 0x1000#16 0#2 false false).vars.timerValue.toNat) ∧
    (0x0800#16 = (0x0900#16 &&& 0xfeff#16) ||| ((blockWith 4#16 4#16 0#16 0#2 true false).vars.control1 &&& 0x1000#16) ∧
      (0x0800#16 : Word).getLsbD 11 = true) ∧
    (0x0000#16 = (0x0000#16 &&& 0xfeff#16) ||| ((blockWith 4#16 1#16 0#16 0#2 true false).vars.control1 &&& 0x1000#16) ∧
      (blockWith 4#16 1#16 0#16 0#2 true false).vars.timerValue.toNat ≤ 1) := by decide

/-- Each of the eight writes of the statement answers a next state, whatever the operand. -/
theorem test_witness_storage_writes (v : Word) (p : Instr × Offset × Word)
    (h : p ∈ [(Instr.wrSts1 v, 0x0004#16, v &&& 0xe870#16), (.wrSts2 v, 0x0006#16, v &&& 0xfff8#16),
      (.wrCnt2 v, 0x000a#16, v), (.wrMsg1 v, 0x000c#16, v &&& 0x00ff#16), (.wrMsg2 v, 0x000d#16, v &&& 0x00ff#16),
      (.wrWdcnt v, 0x000e#16, v &&& 0x00ff#16), (.wrSwirq v, 0x0010#16, v &&& 0x00ff#16), (.wrTmr v, 0x0012#16, v)]) :
    ∃ t : State, exec p.1 State.reset = .next t := by
  simp only [List.mem_cons, List.not_mem_nil, or_false] at h
  rcases h with rfl | rfl | rfl | rfl | rfl | rfl | rfl | rfl <;> exact ⟨_, rfl⟩

theorem test_witness_stale_tick :
    State.reset.vars.tickPending = false ∧
    (Sound (blockWith 3#16 4#16 0x0800#16 1#2 false false) ∧
      (blockWith 3#16 4#16 0x0800#16 1#2 false false).vars.control1.getLsbD 11 = true) ∧
    (Sound (blockWith 0#16 4#16 0x1000#16 0#2 false true) ∧
      (blockWith 0#16 4#16 0x1000#16 0#2 false true).vars.resetLatched = true) :=
  ⟨by decide, ⟨test_halted_block_sound, by decide⟩, test_latched_block_sound, by decide⟩

theorem test_witness_tick_counts_down (rld : Word) (h : rld ∈ [0x0000#16, 0x0002#16, 0x0402#16]) :
    (blockWith rld 4#16 0#16 0#2 true false).vars.tickPending = true ∧
    ((blockWith rld 4#16 0#16 0#2 true false).vars.reloadCounter - 1#16) &&& 0x03ff#16 ≠ 0x0000#16 := by
  simp only [List.mem_cons, List.not_mem_nil, or_false] at h
  rcases h with rfl | rfl | rfl <;> decide

theorem test_witness_first_timeout (rld : Word) (h : rld ∈ [0x0001#16, 0x0401#16]) :
    (blockWith rld 4#16 0#16 0#2 true false).vars.tickPending = true ∧
    (blockWith rld 4#16 0#16 0#2 true false).vars.resetLatched = false ∧
    (blockWith rld 4#16 0#16 0#2 true false).vars.n = 0#2 ∧
    ((blockWith rld 4#16 0#16 0#2 true false).vars.reloadCounter - 1#16) &&& 0x03ff#16 = 0x0000#16 := by
  simp only [List.mem_cons, List.not_mem_nil, or_false] at h
  rcases h with rfl | rfl <;> decide

theorem test_witness_second_timeout (s : State)
    (h : s ∈ [blockWith 1#16 4#16 0#16 1#2 true false, blockEsc2 1#16 4#16 0#16 1#2 true false]) :
    s.vars.tickPending = true ∧ s.vars.resetLatched = false ∧ s.vars.n = 1#2 ∧
    (s.vars.reloadCounter - 1#16) &&& 0x03ff#16 = 0x0000#16 ∧
    (if s.params.escSts2 then (0x0008#16 : Word) else 0x000e#16) =
      (if s.params.escSts2 then s.vars.status1 ||| 0x0008#16 else s.vars.status1 ||| 0x000e#16) ∧
    (if s.params.escSts2 then (0x0006#16 : Word) else 0x0000#16) =
      (if s.params.escSts2 then s.vars.status2 ||| 0x0006#16 else s.vars.status2) := by
  simp only [List.mem_cons, List.not_mem_nil, or_false] at h
  rcases h with rfl | rfl <;> decide

theorem test_witness_outside_flags :
    State.reset.vars.tickPending = false ∧
    ((blockWith 0#16 4#16 0#16 1#2 true false).vars.reloadCounter - 1#16) &&& 0x03ff#16 ≠ 0x0000#16 ∧
    (blockWith 1#16 4#16 0#16 0#2 true false).vars.n ≠ 1#2 ∧
    (blockWith 1#16 4#16 0#16 1#2 true false).vars.n = 1#2 := by decide

/-- The four ways the tick request changes, each from a reachable block. -/
theorem test_witness_countdown_starts_and_stops :
    Sound State.reset ∧ State.reset.vars.tickPending = false ∧
    (after kick State.reset).map (fun p => p.1.tickPending) = some true ∧
    Sound (blockWith 1#16 2#16 0#16 1#2 true false) ∧
    (after stop (blockWith 1#16 2#16 0#16 1#2 true false)).map (fun p => p.1.tickPending) = some false ∧
    (after (.tick false false) (blockWith 1#16 2#16 0#16 1#2 true false)).map (fun p => p.1.tickPending) = some false ∧
    (after .init (blockWith 1#16 2#16 0#16 1#2 true false)).map (fun p => p.1.tickPending) = some false :=
  ⟨by constructor <;> decide, by decide, by decide, test_running_block_sound, by decide, by decide, by decide⟩

theorem test_witness_init_clause :
    (∃ t : State, exec (.wrCnt1 0x0000#16) (blockWith 0#16 4#16 0x1000#16 0#2 false true) = .next t) ∧
    Instr.wrCnt1 0x0000#16 ≠ .init ∧ (blockWith 0#16 4#16 0x1000#16 0#2 false true).vars.control1.getLsbD 12 = true ∧
    (blockWith 0#16 4#16 0x1000#16 0#2 false true).vars.resetLatched = true := ⟨⟨_, rfl⟩, by decide, by decide, by decide⟩

theorem test_witness_nothing_runs_before_first_arming (v : Word) :
    Instr.wrRld v ∉ [setTimer 0x0400#16, .tick true true, .wrDin 0x00A5#16, .init] ∧
    Instr.wrCnt1 v ∉ [setTimer 0x0400#16, .tick true true, .wrDin 0x00A5#16, .init] := by simp [setTimer]

theorem test_witness_step_keeps_sound :
    Sound { blockWith 1#16 2#16 0#16 1#2 true false with inbox := [0x200000000#34] } ∧
    ∃ t : State, step { blockWith 1#16 2#16 0#16 1#2 true false with inbox := [0x200000000#34] } = .next t :=
  ⟨by constructor <;> decide, _, rfl⟩

theorem test_witness_lock_stays :
    noInit [stop, go, kick, .tick true true, .wrCnt1 0xEFFF#16] = true ∧
    (blockWith 0#16 4#16 0x1000#16 0#2 false false).vars.control1.getLsbD 12 = true := by decide

/-- Each row of the write matrix has a change to speak of: the operation of the row, from the state shown, changes the variable. -/
theorem test_witness_write_matrix :
    (after kick State.reset).map (fun p => (p.1.reloadCounter, p.1.tickPending)) = some (4#16, true) ∧
    (after (.tick true true) (blockEsc2 1#16 4#16 0#16 1#2 true false)).map (fun p => (p.1.status1, p.1.status2, p.1.n)) =
      some (0x0008#16, 0x0006#16, 0#2) ∧
    (after (.tick false true) (blockWith 1#16 4#16 0#16 1#2 true false)).map (fun p => p.1.resetLatched) = some true ∧
    (after (.wrDin 1#16) State.reset).map (fun p => p.1.dataIn) = some 1#8 ∧
    (after (.wrDout 1#16) State.reset).map (fun p => (p.1.dataOut, p.1.status1)) = some (1#8, 0x0004#16) ∧
    (after stop State.reset).map (fun p => p.1.control1) = some 0x0800#16 ∧
    (after (.wrCnt2 1#16) State.reset).map (fun p => p.1.control2) = some 1#16 ∧
    (after (.wrMsg1 1#16) State.reset).map (fun p => p.1.message1) = some 1#8 ∧
    (after (.wrMsg2 1#16) State.reset).map (fun p => p.1.message2) = some 1#8 ∧
    (after (.wrWdcnt 1#16) State.reset).map (fun p => p.1.watchdogCount) = some 1#8 ∧
    (after (.wrSwirq 1#16) State.reset).map (fun p => p.1.irqSelect) = some 1#8 ∧
    (after (.wrTmr 1#16) State.reset).map (fun p => p.1.timerValue) = some 1#16 := by decide

/-- Two identical accesses: a kick that arms, a DataIn write, a read. -/
theorem test_witness_repeated_accesses (i : Instr) (h : i ∈ [kick, go, .wrDin 0x00A5#16, .rdSts1]) :
    i.isTick = false ∧ i ≠ .init ∧ ∃ t u : State, exec i State.reset = .next t ∧ exec i t = .next u := by
  simp only [List.mem_cons, List.not_mem_nil, or_false] at h
  rcases h with rfl | rfl | rfl | rfl <;> exact ⟨rfl, by decide, _, _, rfl, rfl⟩

/-- Two blocks that differ in the status bits, the lock and the data registers, and agree on the engine. -/
theorem test_witness_same_engine :
    SameEngine (blockWith 1#16 4#16 0x1000#16 1#2 true false)
      { State.reset with vars := { Vars.reset with reloadCounter := 1#16, n := 1#2, tickPending := true, status1 := 0xFFFF#16,
                                                   dataIn := 0x5A#8, control1 := 0x0001#16 } } := by constructor <;> decide

theorem test_witness_latched_block :
    Sound (blockWith 0#16 4#16 0x1000#16 0#2 false true) ∧ (blockWith 0#16 4#16 0x1000#16 0#2 false true).vars.resetLatched = true ∧
    noInit [kick, .tick false false] = true ∧
    armable (runState [kick, .tick false false] (blockWith 0#16 4#16 0x1000#16 0#2 false true)).vars = true :=
  ⟨test_latched_block_sound, by decide, by decide, by decide⟩

/-- A sequence without `INIT` that does emit `WDT_RESET` once. -/
theorem test_witness_reset_at_most_once :
    Sound (blockWith 1#16 2#16 0#16 1#2 true false) ∧ noInit [.tick false false, kick, .tick false false] = true ∧
    runEvents [.tick false false, kick, .tick false false] (blockWith 1#16 2#16 0#16 1#2 true false) = [.wdtReset] :=
  ⟨test_running_block_sound, by decide, by decide⟩

theorem test_witness_stop_holds :
    (∃ t : State, exec stop (blockWith 1#16 2#16 0#16 1#2 true false) = .next t) ∧
    keepsControl1 [kick, setTimer 0x0002#16, .tick true false] = true := ⟨⟨_, rfl⟩, by decide⟩

theorem test_witness_ticks_to_expiry :
    (blockWith 2#16 4#16 0#16 0#2 true false).vars.tickPending = true ∧
    [(true, false)].length < ticksToExpiry (blockWith 2#16 4#16 0#16 0#2 true false).vars.reloadCounter ∧
    [(true, false), (false, true)].length = ticksToExpiry (blockWith 2#16 4#16 0#16 0#2 true false).vars.reloadCounter ∧
    ((0x0402#16 : Word) &&& 0x03ff#16) ≠ 0x0000#16 ∧ ((0x0400#16 : Word) &&& 0x03ff#16) = 0x0000#16 := by decide

/-- A reachable armable block at the smallest period, a kick of it, and three ticks with a status write among them. -/
theorem test_witness_two_full_periods :
    Sound (blockWith 1#16 2#16 0#16 1#2 true false) ∧
    (blockWith 1#16 2#16 0#16 1#2 true false).vars.control1.getLsbD 11 = false ∧
    2 ≤ (blockWith 1#16 2#16 0#16 1#2 true false).vars.timerValue.toNat ∧
    (blockWith 1#16 2#16 0#16 1#2 true false).vars.timerValue.toNat ≤ 0x03ff ∧
    (∃ t : State, exec kick (blockWith 1#16 2#16 0#16 1#2 true false) = .next t) ∧
    keepsTimer [.tick false false, .tick false false, clearStatus1, .tick false false] = true ∧
    tickCount [.tick false false, .tick false false, clearStatus1, .tick false false] <
      2 * (blockWith 1#16 2#16 0#16 1#2 true false).vars.timerValue.toNat :=
  ⟨test_running_block_sound, by decide, by decide, by decide, ⟨_, rfl⟩, by decide, by decide⟩

/-- A silent guest's block at either end of the range of `timer_value`. -/
theorem test_witness_silent_guest (N : Word) (h : N ∈ [0x0002#16, 0x03ff#16]) :
    (blockWith 0#16 N 0#16 0#2 false false).vars.resetLatched = false ∧
    (blockWith 0#16 N 0#16 0#2 false false).vars.control1.getLsbD 11 = false ∧
    2 ≤ (blockWith 0#16 N 0#16 0#2 false false).vars.timerValue.toNat ∧
    (blockWith 0#16 N 0#16 0#2 false false).vars.timerValue.toNat ≤ 0x03ff ∧
    ∃ t : State, exec kick (blockWith 0#16 N 0#16 0#2 false false) = .next t := by
  simp only [List.mem_cons, List.not_mem_nil, or_false] at h
  rcases h with rfl | rfl <;> exact ⟨by decide, by decide, by decide, by decide, _, rfl⟩

theorem test_witness_timely_kicks :
    State.reset.vars.control1.getLsbD 11 = false ∧ 2 ≤ State.reset.vars.timerValue.toNat ∧
    State.reset.vars.timerValue.toNat ≤ 0x03ff ∧ (∀ g ∈ [3, 0, 3], g < State.reset.vars.timerValue.toNat) := by decide

theorem test_witness_kick_and_expiring_tick (rld : Word) (h : rld ∈ [0x0001#16, 0x0401#16]) :
    (blockWith rld 2#16 0#16 0#2 true false).vars.tickPending = true ∧
    (blockWith rld 2#16 0#16 0#2 true false).vars.resetLatched = false ∧
    (blockWith rld 2#16 0#16 0#2 true false).vars.control1.getLsbD 11 = false ∧
    2 ≤ (blockWith rld 2#16 0#16 0#2 true false).vars.timerValue.toNat ∧
    (blockWith rld 2#16 0#16 0#2 true false).vars.timerValue.toNat ≤ 0x03ff ∧
    (blockWith rld 2#16 0#16 0#2 true false).vars.n = 0#2 ∧
    ((blockWith rld 2#16 0#16 0#2 true false).vars.reloadCounter - 1#16) &&& 0x03ff#16 = 0x0000#16 := by
  simp only [List.mem_cons, List.not_mem_nil, or_false] at h
  rcases h with rfl | rfl <;> decide

/-- A timed run of a kick, a full interval and the tick that is due. -/
theorem test_witness_timed_run :
    (timedRun 10 [.op kick, .wait 10, .op (.tick false false)] TimedState.reset).isSome = true := by decide

theorem test_witness_deadline :
    TimedState.reset.deadline.isSome = TimedState.reset.block.vars.tickPending ∧
    (∀ d ∈ TimedState.reset.deadline, TimedState.reset.now ≤ d) ∧
    (timedStep 10 (.op kick) TimedState.reset).isSome = true := by decide

theorem test_witness_timed_kick_restarts_interval :
    TimedState.reset.block.vars.resetLatched = false ∧ TimedState.reset.block.vars.control1.getLsbD 11 = false ∧
    2 ≤ TimedState.reset.block.vars.timerValue.toNat ∧ (∀ w ∈ [9, 0], w < 10) ∧ 9 < 10 := by decide

/-- The pins of each clause of the cycle statement: reset (alone, and with everything at once, in either `beforeReset`), a read, a write,
a tick, an idle cycle. -/
theorem test_witness_pin_cycle :
    (PinInputs.mk true false false 0#16 0#16 false false false).rst = true ∧
    (PinInputs.mk true true true 0#16 0#16 true true true).rst = true ∧
    (PinOrder.mk false false).beforeReset = false ∧ (PinOrder.mk true true).beforeReset = true ∧
    (fun p : PinInputs => (p.rst, p.sel, p.wr, p.tickFire)) ⟨false, true, false, 0x0012#16, 0#16, false, false, false⟩ =
      (false, true, false, false) ∧
    (fun p : PinInputs => (p.rst, p.sel, p.wr, p.tickFire)) ⟨false, true, true, 0x0002#16, 0x00A5#16, false, false, false⟩ =
      (false, true, true, false) ∧
    (fun p : PinInputs => (p.rst, p.sel, p.tickFire)) ⟨false, false, false, 0#16, 0#16, true, true, false⟩ = (false, false, true) ∧
    (fun p : PinInputs => (p.rst, p.sel, p.tickFire)) ⟨false, false, false, 0#16, 0#16, false, false, false⟩ =
      (false, false, false) := by decide

/-- A kick and the expiring tick in one cycle, and a read and a tick in one cycle: the pins of the clause in which both coincide. -/
def kickAndTick : PinInputs := ⟨false, true, true, 0x0000#16, 0x0001#16, true, false, false⟩
def readAndTick : PinInputs := ⟨false, true, false, 0x0000#16, 0x0000#16, true, false, false⟩

/-- Tick first (60 R188): the timeout is counted and its interrupt shown, and then the kick clears `n`. -/
theorem test_witness_pin_cycle_tick_first :
    (kickAndTick.rst = false ∧ kickAndTick.sel = true ∧ kickAndTick.tickFire = true ∧ (PinOrder.mk true false).tickFirst = true) ∧
    (cycle ⟨true, false⟩ kickAndTick (blockWith 1#16 4#16 0#16 0#2 true false)).2 = ⟨none, 0, 1, 0, 2, 0⟩ ∧
    (cycle ⟨true, false⟩ kickAndTick (blockWith 1#16 4#16 0#16 0#2 true false)).1.vars.status1 = 0x0008#16 := by decide

/-- Access first (60 R188): the kick prevents the timeout. -/
theorem test_witness_pin_cycle_access_first :
    (kickAndTick.rst = false ∧ kickAndTick.sel = true ∧ kickAndTick.tickFire = true ∧ (PinOrder.mk false false).tickFirst = false) ∧
    (cycle ⟨false, false⟩ kickAndTick (blockWith 1#16 4#16 0#16 0#2 true false)).2 = ⟨none, 0, 0, 0, 2, 0⟩ ∧
    (cycle ⟨false, false⟩ kickAndTick (blockWith 1#16 4#16 0#16 0#2 true false)).1.vars.reloadCounter = 3#16 := by decide

/-- A read that coincides with a tick sees the counter after it or before it. -/
theorem test_pin_read_coincides_with_tick :
    (cycle ⟨true, false⟩ readAndTick (blockWith 3#16 4#16 0#16 0#2 true false)).2.rdata = some 2#16 ∧
    (cycle ⟨false, false⟩ readAndTick (blockWith 3#16 4#16 0#16 0#2 true false)).2.rdata = some 3#16 := by decide

/-- Two SMI events of one cycle, a DataIn write and a first timeout with `smi_en` = 1, are two pulses in either order (00_scope R11). -/
theorem test_pin_two_smi_events_are_two_pulses :
    (cycle ⟨true, false⟩ ⟨false, true, true, 0x0002#16, 0x00A5#16, true, false, true⟩
      (blockWith 1#16 4#16 0#16 0#2 true false)).2 = ⟨none, 2, 0, 0, 1, 0⟩ ∧
    (cycle ⟨false, false⟩ ⟨false, true, true, 0x0002#16, 0x00A5#16, true, false, true⟩
      (blockWith 1#16 4#16 0#16 0#2 true false)).2 = ⟨none, 2, 0, 0, 1, 0⟩ := by decide

end Sys2Proof.Tests
end

/-! PROOFS (spec chapter 00, scope). What every operation's answer has in common, decoding by offset against the bus primitives,
sequences of operations joined end to end, and the statements of the chapter. -/

namespace Sys2Proof.Machine

/-! ## What every operation's answer has in common -/

/-- What `t` has as the next state of the operation `i` from `s`, whatever the operation. -/
structure AnswerFrame (i : Instr) (s t : State) : Prop where
  params : t.params = s.params
  inbox : t.inbox = s.inbox
  readValue_none : i.isRead = false → t.out.readValue = none

theorem answerRead_eq (w : Word) (s : State) :
    answerRead w s = .next { s with out := ⟨some w, [], false, false⟩ } := rfl

theorem arm_readValue (s : State) : (arm s).out.readValue = s.out.readValue := by
  unfold arm; split <;> rfl

theorem escalate_readValue (nr se : Bool) (s : State) : (escalate nr se s).out.readValue = s.out.readValue := by
  rcases escalate_cases nr se s with ⟨_, e⟩ | ⟨_, _, e⟩ | ⟨_, _, e⟩ <;> rw [e] <;> rfl

theorem reloadAfterTimeout_readValue (s : State) : (reloadAfterTimeout s).out.readValue = s.out.readValue := by
  unfold reloadAfterTimeout; split <;> rfl

theorem countDown_readValue (nr se : Bool) (s : State) : (countDown nr se s).out.readValue = s.out.readValue := by
  rcases countDown_cases nr se s with ⟨_, h⟩ | ⟨_, h⟩ <;> rw [h]
  · rfl
  · rw [reloadAfterTimeout_readValue, escalate_readValue]; rfl

/-- A kick: the counter loaded and perhaps a tick asked for, or the operand stored. -/
theorem execWrRld_answers (v : Word) (s : State) : ∃ t : State, exec (.wrRld v) s = .next t ∧ AnswerFrame (.wrRld v) s t := by
  refine ⟨_, rfl, ?_⟩
  split
  · obtain ⟨hparams, hinbox⟩ := arm_keeps (clearTimeoutCount (begin s))
    exact ⟨hparams, hinbox, fun _ => arm_readValue _⟩
  · exact ⟨rfl, rfl, fun _ => rfl⟩

/-- A Control1 write: armed or disarmed after it. -/
theorem execWrCnt1_answers (v : Word) (s : State) : ∃ t : State, exec (.wrCnt1 v) s = .next t ∧ AnswerFrame (.wrCnt1 v) s t := by
  refine ⟨_, rfl, ?_⟩
  split
  · obtain ⟨hparams, hinbox⟩ := arm_keeps (setVars { s.vars with control1 := control1Operand v s.vars.control1 } (begin s))
    exact ⟨hparams, hinbox, fun _ => arm_readValue _⟩
  · exact ⟨rfl, rfl, fun _ => rfl⟩

/-- A tick: stale, or the countdown. -/
theorem execTick_answers (nr se : Bool) (s : State) :
    ∃ t : State, exec (.tick nr se) s = .next t ∧ AnswerFrame (.tick nr se) s t := by
  refine ⟨_, rfl, ?_⟩
  split
  · obtain ⟨hparams, hinbox⟩ := countDown_keeps nr se (begin s)
    exact ⟨hparams, hinbox, fun _ => countDown_readValue nr se _⟩
  · exact ⟨rfl, rfl, fun _ => rfl⟩

/-- Every operation answers a next state (60 R180), and one with the common frame. -/
theorem exec_answers (i : Instr) (s : State) : ∃ t : State, exec i s = .next t ∧ AnswerFrame i s t := by
  cases i with
  | rdRld | rdDin | rdDout | rdSts1 | rdSts2 | rdCnt1 | rdCnt2 | rdMsg1 | rdMsg2 | rdWdcnt | rdSwirq | rdTmr | rdUnmapped off =>
    exact ⟨_, answerRead_eq _ s, rfl, rfl, Bool.noConfusion⟩
  | wrDin v | wrDout v | wrSts1 v | wrSts2 v | wrCnt2 v | wrMsg1 v | wrMsg2 v | wrWdcnt v | wrSwirq v | wrTmr v
  | wrUnmapped off v | init =>
    exact ⟨_, rfl, rfl, rfl, fun _ => rfl⟩
  | wrRld v => exact execWrRld_answers v s
  | wrCnt1 v => exact execWrCnt1_answers v s
  | tick nr se => exact execTick_answers nr se s

/-- The frame of whatever next state an operation answers. -/
theorem answerFrame_of_exec {i : Instr} {s t : State} (h : exec i s = .next t) : AnswerFrame i s t := by
  obtain ⟨u, hu, hframe⟩ := exec_answers i s
  rw [hu] at h
  cases h
  exact hframe

theorem exec_init (s : State) : exec .init s = .next (initialise (begin s)) := rfl

/-- Settles O9: the common frame of every answer holds the parameter and the inbox. -/
theorem operationsKeepParameterAndInbox : Obligations.OperationsKeepParameterAndInbox := by
  intro i s t h
  have hframe := answerFrame_of_exec h
  exact ⟨hframe.params, hframe.inbox⟩

/-! ## One step -/

/-- No word decodes to an ill-formed operation: a fall-through row is reached by an unmapped offset only (30_encoding R85). -/
theorem decode_wellFormed (w : OpWord) : (decode w).wellFormed = true := by
  rcases decode_by_kind w with ⟨_, h⟩ | ⟨_, h⟩ | ⟨_, h⟩ | ⟨_, h⟩ <;> rw [h]
  · apply decodeRead_cases (fun _ i => i.wellFormed = true)
    case hu => intro off hoff; simpa [Instr.wellFormed] using hoff
    all_goals rfl
  · apply decodeWrite_cases (valField w) (fun _ i => i.wellFormed = true)
    case hu => intro off hoff; simpa [Instr.wellFormed] using hoff
    all_goals rfl
  · rfl
  · rfl

theorem step_cons {s : State} {w : OpWord} {rest : List OpWord} (h : s.inbox = w :: rest) :
    step s = exec (decode w) { s with inbox := rest } := by
  simp [step, fetch_cons s w rest h]

theorem step_nil {s : State} (h : s.inbox = []) : step s = .next (idle s) := by
  simp [step, h]

/-- Settles O6: the fetch of a non-empty inbox, and that decoding yields no ill-formed operation. -/
theorem stepRunsDecodedOperation : Obligations.StepRunsDecodedOperation :=
  fun _ w _ h => ⟨decode_wellFormed w, step_cons h⟩

/-- Settles O7: an idle step only clears the outputs. -/
theorem stepWithoutOperationIdles : Obligations.StepWithoutOperationIdles :=
  fun _ h => step_nil h

/-! ## A bus access is the primitive of its offset (40 R100, R114) -/

/-- The read operation of an offset returns what `RegRead` returns there, and does nothing else. -/
theorem exec_decodeRead (off : Offset) (s : State) :
    exec (decodeRead off) s = .next { s with out := ⟨some (regRead off s.vars), [], false, false⟩ } := by
  apply decodeRead_cases (fun off i => exec i s = .next { s with out := ⟨some (regRead off s.vars), [], false, false⟩ })
  case hu =>
    intro off hoff
    have hread : regRead off s.vars = 0x0000#16 := by
      simp only [Config.mappedOffsets, List.mem_cons, List.not_mem_nil, or_false, not_or] at hoff
      simp [regRead, hoff]
    rw [hread]
    rfl
  all_goals rfl

/-- The write operation of an offset is `RegWrite` there. -/
theorem exec_decodeWrite (off : Offset) (v : Word) (s : State) : exec (decodeWrite off v) s = regWrite off v s := by
  apply decodeWrite_cases v (fun off i => exec i s = regWrite off v s)
  case hu =>
    intro off hoff
    simp only [Config.mappedOffsets, List.mem_cons, List.not_mem_nil, or_false, not_or] at hoff
    simp [exec, regWrite, hoff]
  all_goals rfl

theorem decodeWrite_isRead (off : Offset) (v : Word) : (decodeWrite off v).isRead = false := by
  apply decodeWrite_cases v (fun _ i => i.isRead = false)
  case hu => intro off _; rfl
  all_goals rfl

/-! ## Sequences of operations, joined end to end -/

theorem runState_append (xs ys : List Instr) (s : State) : runState (xs ++ ys) s = runState ys (runState xs s) := by
  induction xs generalizing s with
  | nil => rfl
  | cons i rest ih =>
    obtain ⟨t, ht, _⟩ := exec_answers i s
    rw [List.cons_append, runState_cons ht, runState_cons ht, ih]

theorem runOutputs_append (xs ys : List Instr) (s : State) :
    runOutputs (xs ++ ys) s = runOutputs xs s ++ runOutputs ys (runState xs s) := by
  induction xs generalizing s with
  | nil => rfl
  | cons i rest ih =>
    obtain ⟨t, ht, _⟩ := exec_answers i s
    rw [List.cons_append, runOutputs_cons ht, runOutputs_cons ht, runState_cons ht, ih, List.cons_append]

/-- The wires of two sequences in one cycle: each pulsed wire adds up, and the first read value is shown. -/
theorem pinOutputs_append (xs ys : List Output) :
    pinOutputs (xs ++ ys) =
      ⟨(pinOutputs xs).rdata.or (pinOutputs ys).rdata, (pinOutputs xs).smi + (pinOutputs ys).smi,
        (pinOutputs xs).nmi + (pinOutputs ys).nmi, (pinOutputs xs).wdtReset + (pinOutputs ys).wdtReset,
        (pinOutputs xs).tickReq + (pinOutputs ys).tickReq, (pinOutputs xs).tickCancel + (pinOutputs ys).tickCancel⟩ := by
  simp [pinOutputs, eventPulses, List.findSome?_append]

/-! ## The pin-level cycle (00_scope R11) -/

/-- A cycle that performs one operation: its next state, and its outputs on the wires. -/
theorem cycle_of_single {o : PinOrder} {p : PinInputs} {i : Instr} {s t : State} (hops : cycleOps o p = [i])
    (h : exec i s = .next t) :
    cycle o p s = (t, ⟨t.out.readValue, t.out.events.count .smi, t.out.events.count .nmi, t.out.events.count .wdtReset,
      t.out.tickReq.toNat, t.out.tickCancel.toNat⟩) := by
  simp [cycle, hops, runState_cons h, runOutputs_cons h, pinOutputs_one]

/-- The value an access shows on `rdata`: the register as the read finds it, or nothing for a write. -/
theorem access_readValue {wr : Bool} {off : Offset} {v : Word} {s t : State}
    (h : exec (decode (if wr then writeWord off v else readWord off)) s = .next t) :
    t.out.readValue = if wr then none else some (regRead off s.vars) := by
  cases wr with
  | true =>
    rw [if_pos rfl, decode_writeWord] at h
    exact (answerFrame_of_exec h).readValue_none (decodeWrite_isRead off v)
  | false =>
    rw [if_neg Bool.false_ne_true, decode_readWord, exec_decodeRead] at h
    cases h
    rfl

/-- `rdata` of a cycle in which an access and a tick coincide: the register as the access finds it, in either order. -/
theorem rdata_access_and_tick {access tick : Instr} {first : Bool} {wr : Bool} {off : Offset} {v : Word}
    (haccess : access = decode (if wr then writeWord off v else readWord off)) (htick : tick.isRead = false) (s : State) :
    (pinOutputs (runOutputs (if first then [tick, access] else [access, tick]) s)).rdata =
      if wr then none else some (regRead off (if first then runState [tick] s else s).vars) := by
  subst haccess
  cases first with
  | true =>
    obtain ⟨t, ht, hframe⟩ := exec_answers tick s
    obtain ⟨u, hu, _⟩ := exec_answers (decode (if wr then writeWord off v else readWord off)) t
    simp [runOutputs_cons ht, runOutputs_cons hu, runState_cons ht, pinOutputs_cons, hframe.readValue_none htick,
      access_readValue hu]
  | false =>
    obtain ⟨t, ht, _⟩ := exec_answers (decode (if wr then writeWord off v else readWord off)) s
    obtain ⟨u, hu, hframe⟩ := exec_answers tick t
    simp [runOutputs_cons ht, runOutputs_cons hu, pinOutputs_cons, hframe.readValue_none htick, access_readValue ht]

/-! ### One lemma per kind of cycle -/

/-- However a cycle with `rst` orders its operations, `INIT` is its last. -/
theorem cycle_reset_vars (o : PinOrder) {p : PinInputs} (hrst : p.rst = true) (s : State) :
    (cycle o p s).1.vars = Vars.reset := by
  rw [cycle_state, cycleOps_reset o p hrst]
  split
  · rw [runState_append, runState_cons (exec_init _)]
    rfl
  · rw [runState_cons (exec_init s)]
    rfl

/-- A cycle with `rst` that drops what coincides with it is `INIT` alone. -/
theorem cycle_reset_alone {o : PinOrder} {p : PinInputs} (hrst : p.rst = true) (ho : o.beforeReset = false) (s : State) :
    cycle o p s = (initialise (begin s), ⟨none, 0, 0, 0, 0, s.vars.tickPending.toNat⟩) := by
  have hops : cycleOps o p = [.init] := by simp [cycleOps_reset o p hrst, ho]
  exact cycle_of_single hops (exec_init s)

/-- A cycle with `rst` that first performs what coincides with it is the same cycle without `rst` and then `INIT`. -/
theorem cycle_reset_last {o : PinOrder} {p : PinInputs} (hrst : p.rst = true) (ho : o.beforeReset = true) {s u : State}
    {w : PinOutputs} (h : cycle o { p with rst := false } s = (u, w)) :
    cycle o p s = (initialise (begin u), { w with tickCancel := w.tickCancel + u.vars.tickPending.toNat }) := by
  obtain ⟨rfl, rfl⟩ := Prod.mk.inj h
  have hops : cycleOps o p = cycleOps o { p with rst := false } ++ [.init] := by rw [cycleOps_reset o p hrst, if_pos ho]
  have hinit := exec_init (runState (cycleOps o { p with rst := false }) s)
  simp [cycle, hops, runState_append, runOutputs_append, runState_cons hinit, runOutputs_cons hinit, pinOutputs_append,
    pinOutputs_one, Output.quiet]

theorem cycle_read {o : PinOrder} {p : PinInputs} (hrst : p.rst = false) (hsel : p.sel = true) (hwr : p.wr = false)
    (hfire : p.tickFire = false) (s : State) :
    cycle o p s = ({ s with out := ⟨some (regRead p.off s.vars), [], false, false⟩ },
      ⟨some (regRead p.off s.vars), 0, 0, 0, 0, 0⟩) := by
  have hops : cycleOps o p = [decodeRead p.off] := by
    simp [cycleOps_running o p hrst, pinTick, pinAccess, hsel, hwr, hfire]
  exact cycle_of_single hops (exec_decodeRead p.off s)

theorem cycle_write {o : PinOrder} {p : PinInputs} (hrst : p.rst = false) (hsel : p.sel = true) (hwr : p.wr = true)
    (hfire : p.tickFire = false) (s : State) :
    ∃ t : State, regWrite p.off p.wdata s = .next t ∧
      cycle o p s = (t, ⟨none, t.out.events.count .smi, t.out.events.count .nmi, t.out.events.count .wdtReset,
        t.out.tickReq.toNat, t.out.tickCancel.toNat⟩) := by
  have hops : cycleOps o p = [decodeWrite p.off p.wdata] := by
    simp [cycleOps_running o p hrst, pinTick, pinAccess, hsel, hwr, hfire]
  obtain ⟨t, ht, hframe⟩ := exec_answers (decodeWrite p.off p.wdata) s
  have hnone := hframe.readValue_none (decodeWrite_isRead p.off p.wdata)
  exact ⟨t, exec_decodeWrite p.off p.wdata s ▸ ht, by rw [cycle_of_single hops ht, hnone]⟩

theorem cycle_tick {o : PinOrder} {p : PinInputs} (hrst : p.rst = false) (hsel : p.sel = false) (hfire : p.tickFire = true)
    (s : State) :
    ∃ t : State, exec (.tick p.noReboot p.smiEn) s = .next t ∧
      cycle o p s = (t, ⟨none, t.out.events.count .smi, t.out.events.count .nmi, t.out.events.count .wdtReset,
        t.out.tickReq.toNat, t.out.tickCancel.toNat⟩) := by
  have hops : cycleOps o p = [.tick p.noReboot p.smiEn] := by
    simp [cycleOps_running o p hrst, pinTick, pinAccess, hsel, hfire]
  obtain ⟨t, ht, hframe⟩ := exec_answers (.tick p.noReboot p.smiEn) s
  exact ⟨t, ht, by rw [cycle_of_single hops ht, hframe.readValue_none rfl]⟩

/-- An access and a tick together are the two in the order `o` says (60 R188). -/
theorem cycleOps_access_and_tick (o : PinOrder) {p : PinInputs} (hrst : p.rst = false) (hsel : p.sel = true)
    (hfire : p.tickFire = true) {access tick : Instr}
    (haccess : access = decode (if p.wr then writeWord p.off p.wdata else readWord p.off))
    (htick : tick = .tick p.noReboot p.smiEn) :
    cycleOps o p = if o.tickFirst then [tick, access] else [access, tick] := by
  simp [cycleOps_running o p hrst, pinTick, pinAccess, hsel, hfire, haccess, htick]

theorem cycle_idle {o : PinOrder} {p : PinInputs} (hrst : p.rst = false) (hsel : p.sel = false) (hfire : p.tickFire = false)
    (s : State) : cycle o p s = (s, ⟨none, 0, 0, 0, 0, 0⟩) := by
  have hops : cycleOps o p = [] := by simp [cycleOps_running o p hrst, pinTick, pinAccess, hsel, hfire]
  simp [cycle, hops]

/-- Settles O54: one lemma per kind of cycle. -/
theorem pinCyclePerformsRequestedOperations : Obligations.PinCyclePerformsRequestedOperations := by
  intro o p s
  refine ⟨fun hrst => ⟨cycle_reset_vars o hrst s, fun ho => ?_, fun ho u w h => ?_⟩,
    fun hrst hsel hwr hfire => ?_, fun hrst hsel hwr hfire => cycle_write hrst hsel hwr hfire s,
    fun hrst hsel hfire => cycle_tick hrst hsel hfire s,
    fun hrst hsel hfire access tick ops haccess htick hops => ?_, fun hrst hsel hfire => ?_⟩
  · rw [cycle_reset_alone hrst ho]
    exact ⟨exec_init s, rfl⟩
  · rw [cycle_reset_last hrst ho h]
    exact ⟨exec_init u, rfl⟩
  · rw [cycle_read hrst hsel hwr hfire]
    exact ⟨rfl, rfl⟩
  · have hcycle : cycleOps o p = ops := by rw [hops, cycleOps_access_and_tick o hrst hsel hfire haccess htick]
    have hrdata := rdata_access_and_tick (first := o.tickFirst) haccess (htick ▸ rfl : tick.isRead = false) s
    rw [← hops] at hrdata
    rw [cycle_state, cycle_wires, hcycle, ← hrdata]
    exact ⟨rfl, rfl⟩
  · rw [cycle_idle hrst hsel hfire]
    exact ⟨rfl, rfl⟩

end Sys2Proof.Machine

/-! PROOFS (spec chapter 10, state). What each operation does to the fifteen variables, the write matrix, initialisation, the
invariants V1 to V6 and V9, and the engine's independence of every other register. -/

namespace Sys2Proof.Machine

/-! ## Each operation once -/

theorem exec_wrRld (v : Word) (s : State) :
    exec (.wrRld v) s = .next (if armable s.vars then arm (clearTimeoutCount (begin s))
      else setVars { s.vars with n := 0#2, reloadCounter := v } (begin s)) := rfl

/-- The block right after the register part of a `WR_CNT1`, before it is armed or disarmed (R120). -/
def control1Written (v : Word) (s : State) : State :=
  setVars { s.vars with control1 := control1Operand v s.vars.control1 } (begin s)

theorem control1Written_vars (v : Word) (s : State) :
    (control1Written v s).vars = { s.vars with control1 := control1Operand v s.vars.control1 } := rfl

theorem exec_wrCnt1 (v : Word) (s : State) :
    exec (.wrCnt1 v) s = .next (if armable (control1Written v s).vars then arm (control1Written v s)
      else disarm (control1Written v s)) := rfl

theorem exec_tick (nr se : Bool) (s : State) :
    exec (.tick nr se) s = .next (if s.vars.tickPending then countDown nr se (begin s) else begin s) := rfl

/-- A kick arms the block or stores its operand; `n` is cleared both ways. -/
theorem wrRld_cases {v : Word} {s t : State} (h : exec (.wrRld v) s = .next t) :
    (armable s.vars = true ∧ t = arm (clearTimeoutCount (begin s))) ∨
    (armable s.vars = false ∧ t = setVars { s.vars with n := 0#2, reloadCounter := v } (begin s)) := by
  rw [exec_wrRld] at h
  cases harm : armable s.vars <;> rw [harm] at h <;> cases h
  · exact .inr ⟨rfl, rfl⟩
  · exact .inl ⟨rfl, rfl⟩

/-- A Control1 write arms or disarms, by the block after the write (92 D11). -/
theorem wrCnt1_cases {v : Word} {s t : State} (h : exec (.wrCnt1 v) s = .next t) :
    (armable (control1Written v s).vars = true ∧ t = arm (control1Written v s)) ∨
    (armable (control1Written v s).vars = false ∧ t = disarm (control1Written v s)) := by
  rw [exec_wrCnt1] at h
  cases harm : armable (control1Written v s).vars <;> rw [harm] at h <;> cases h
  · exact .inr ⟨rfl, rfl⟩
  · exact .inl ⟨rfl, rfl⟩

/-- A tick is stale or counts down. -/
theorem tick_cases {nr se : Bool} {s t : State} (h : exec (.tick nr se) s = .next t) :
    (s.vars.tickPending = false ∧ t = begin s) ∨
    (s.vars.tickPending = true ∧ t = countDown nr se (begin s)) := by
  rw [exec_tick] at h
  cases hpend : s.vars.tickPending <;> rw [hpend] at h <;> cases h
  · exact .inl ⟨rfl, rfl⟩
  · exact .inr ⟨rfl, rfl⟩

theorem arm_vars (s : State) :
    (arm s).vars = { s.vars with reloadCounter := s.vars.timerValue,
                                 tickPending := s.vars.tickPending || !s.vars.resetLatched } := by
  cases hlatch : s.vars.resetLatched
  · simp [arm_unlatched s hlatch, hlatch]
  · simp [arm_latched s hlatch, hlatch]

/-- The two flags go where the parameter says (92 D13). -/
theorem markSecondTimeout_eq (s : State) :
    markSecondTimeout s = setVars { s.vars with
      status1 := if s.params.escSts2 then s.vars.status1 else s.vars.status1 ||| 0x0006#16
      status2 := if s.params.escSts2 then s.vars.status2 ||| 0x0006#16 else s.vars.status2
      n := 0#2 } s := by
  rw [markSecondTimeout, setSecondTimeout_eq]

/-! ## The three bits of Control1 that matter (10_state R26, 40 R120) -/

theorem control1Operand_reserved (v old : Word) : (control1Operand v old).getLsbD 8 = false := by
  simp [control1Operand, Config.control1Mask, Config.lockMask]

theorem control1Operand_halt (v old : Word) : (control1Operand v old).getLsbD 11 = v.getLsbD 11 := by
  simp [control1Operand, Config.control1Mask, Config.lockMask]

theorem control1Operand_lock (v old : Word) :
    (control1Operand v old).getLsbD 12 = (v.getLsbD 12 || old.getLsbD 12) := by
  simp [control1Operand, Config.control1Mask, Config.lockMask]

/-! ## What the countdown and the escalation policy leave alone -/

/-- What `t` keeps of `s` where only pieces of the countdown and the policy ran between them. -/
structure TickFrame (s t : State) : Prop where
  params : t.params = s.params
  dataIn : t.vars.dataIn = s.vars.dataIn
  dataOut : t.vars.dataOut = s.vars.dataOut
  status2 : s.params.escSts2 = false → t.vars.status2 = s.vars.status2
  control1 : t.vars.control1 = s.vars.control1
  control2 : t.vars.control2 = s.vars.control2
  message1 : t.vars.message1 = s.vars.message1
  message2 : t.vars.message2 = s.vars.message2
  watchdogCount : t.vars.watchdogCount = s.vars.watchdogCount
  irqSelect : t.vars.irqSelect = s.vars.irqSelect
  timerValue : t.vars.timerValue = s.vars.timerValue
  latch : s.vars.resetLatched = true → t.vars.resetLatched = true

theorem TickFrame.trans {s t u : State} (h : TickFrame s t) (k : TickFrame t u) : TickFrame s u where
  params := k.params.trans h.params
  dataIn := k.dataIn.trans h.dataIn
  dataOut := k.dataOut.trans h.dataOut
  status2 hesc := (k.status2 (h.params ▸ hesc)).trans (h.status2 hesc)
  control1 := k.control1.trans h.control1
  control2 := k.control2.trans h.control2
  message1 := k.message1.trans h.message1
  message2 := k.message2.trans h.message2
  watchdogCount := k.watchdogCount.trans h.watchdogCount
  irqSelect := k.irqSelect.trans h.irqSelect
  timerValue := k.timerValue.trans h.timerValue
  latch hlatch := k.latch (h.latch hlatch)

/-- The two flags and `n` are all a second timeout writes, and the flags go to Status2 with `P_ESC_STS2` only. -/
theorem markSecondTimeout_frame (s : State) : TickFrame s (markSecondTimeout s) := by
  constructor <;> simp +contextual [markSecondTimeout_eq]

theorem escalate_frame (nr se : Bool) (s : State) : TickFrame s (escalate nr se s) := by
  have hcount : TickFrame s (countTimeout s) := by constructor <;> simp [countTimeout]
  have hsecond := hcount.trans (markSecondTimeout_frame (countTimeout s))
  rcases escalate_cases nr se s with ⟨_, e⟩ | ⟨_, _, e⟩ | ⟨_, _, e⟩ <;> rw [e]
  · exact { hcount with }
  · exact { hsecond with }
  · exact { hsecond with latch := fun _ => rfl }

theorem reloadAfterTimeout_frame (s : State) : TickFrame s (reloadAfterTimeout s) := by
  cases hlatch : s.vars.resetLatched
  · rw [reloadAfterTimeout_unlatched s hlatch]
    constructor <;> simp
  · rw [reloadAfterTimeout_latched s hlatch]
    constructor <;> simp

theorem countDown_frame (nr se : Bool) (s : State) : TickFrame s (countDown nr se s) := by
  have hdecrement : TickFrame s (decrement (consumeTick s)) := by constructor <;> simp
  rcases countDown_cases nr se s with ⟨_, e⟩ | ⟨_, e⟩ <;> rw [e]
  · exact { hdecrement with }
  · exact hdecrement.trans ((escalate_frame nr se _).trans (reloadAfterTimeout_frame _))

theorem tick_frame {nr se : Bool} {s t : State} (h : exec (.tick nr se) s = .next t) : TickFrame s t := by
  rcases tick_cases h with ⟨_, rfl⟩ | ⟨_, rfl⟩
  · constructor <;> simp
  · exact { countDown_frame nr se (begin s) with }

/-! ## A stale tick (41 R143) -/

theorem exec_tick_stale (nr se : Bool) {s : State} (h : s.vars.tickPending = false) :
    exec (.tick nr se) s = .next { s with out := ⟨none, [], false, false⟩ } := by
  rw [exec_tick, h]
  rfl

/-- Settles O25: halted or latched, a sound block has no tick pending, so every tick is stale. -/
theorem staleTickChangesNothing : Obligations.StaleTickChangesNothing := by
  refine fun nr se s => ⟨exec_tick_stale nr se, fun hsound hdead => exec_tick_stale nr se ?_⟩
  rcases hdead with hhalt | hlatch
  · exact hsound.halted_idle hhalt
  · exact hsound.latched_idle hlatch

/-! ## The write matrix (10_state R39) -/

/-- Settles O39, operation by operation: what each makes of the variables, and that it stands in the rows of those it changes. -/
theorem writeMatrixHolds : Obligations.WriteMatrixHolds := by
  intro i s t h hinit
  cases i with
  | rdRld | rdDin | rdDout | rdSts1 | rdSts2 | rdCnt1 | rdCnt2 | rdMsg1 | rdMsg2 | rdWdcnt | rdSwirq | rdTmr | rdUnmapped off
  | wrDin v | wrDout v | wrSts1 v | wrSts2 v | wrCnt2 v | wrMsg1 v | wrMsg2 v | wrWdcnt v | wrSwirq v | wrTmr v
  | wrUnmapped off v =>
    cases h
    simp
  | wrRld v => rcases wrRld_cases h with ⟨_, rfl⟩ | ⟨_, rfl⟩ <;> simp [arm_vars]
  | wrCnt1 v => rcases wrCnt1_cases h with ⟨_, rfl⟩ | ⟨_, rfl⟩ <;> simp [arm_vars, disarm_eq, control1Written_vars]
  | tick nr se =>
    have hframe := tick_frame h
    have hstatus2 : t.vars.status2 ≠ s.vars.status2 → s.params.escSts2 = true := fun hne =>
      eq_true_of_ne_false fun hesc => hne (hframe.status2 hesc)
    simpa [Instr.isTick, hframe.dataIn, hframe.dataOut, hframe.control1, hframe.control2, hframe.message1, hframe.message2,
      hframe.watchdogCount, hframe.irqSelect, hframe.timerValue] using hstatus2
  | init => exact absurd rfl hinit

/-! ## Initialisation (70 R210, 10_state R41) -/

/-- Only `WR_CNT1` writes Control1, and it keeps a set `LOCK`. -/
theorem exec_keeps_lock {i : Instr} {s t : State} (h : exec i s = .next t) (hinit : i ≠ .init)
    (hlock : s.vars.control1.getLsbD 12 = true) : t.vars.control1.getLsbD 12 = true := by
  obtain ⟨-, -, -, -, -, hcontrol1, -⟩ := writeMatrixHolds i s t h hinit
  by_cases hsame : t.vars.control1 = s.vars.control1
  · rw [hsame, hlock]
  · obtain ⟨v, rfl⟩ := hcontrol1 hsame
    rcases wrCnt1_cases h with ⟨_, rfl⟩ | ⟨_, rfl⟩ <;>
      simp [arm_vars, disarm_eq, control1Written_vars, control1Operand_lock, hlock]

/-- Only `TICK` writes the latch, and it never clears it. -/
theorem exec_keeps_latch {i : Instr} {s t : State} (h : exec i s = .next t) (hinit : i ≠ .init)
    (hlatch : s.vars.resetLatched = true) : t.vars.resetLatched = true := by
  obtain ⟨-, -, -, -, -, -, -, -, -, -, -, -, -, -, hrow⟩ := writeMatrixHolds i s t h hinit
  by_cases hsame : t.vars.resetLatched = s.vars.resetLatched
  · rw [hsame, hlatch]
  · cases i with
    | tick nr se => exact (tick_frame h).latch hlatch
    | _ => exact Bool.noConfusion (hrow hsame)

/-- Settles O33: the next state of `INIT`, and that no other operation clears `LOCK` or the latch. -/
theorem initRestoresEveryVariable : Obligations.InitRestoresEveryVariable :=
  ⟨exec_init, fun _ _ _ h hinit => ⟨exec_keeps_lock h hinit, exec_keeps_latch h hinit⟩⟩

/-- Settles O34: the reset values, and `INIT` on a block that already has them. -/
theorem resetStateHoldsDefaults : Obligations.ResetStateHoldsDefaults :=
  ⟨rfl, exec_init State.reset, rfl⟩

/-! ## The invariants V1 to V6 and V9 (10_state R40) -/

/-- Or-ing bits outside a mask into a word leaves the masked part 0. -/
theorem or_and_eq_zero {w : Nat} {x bits mask : BitVec w} (hx : x &&& mask = 0#w) (hbits : bits &&& mask = 0#w) :
    (x ||| bits) &&& mask = 0#w := by
  rw [BitVec.and_or_distrib_right, hx, hbits, BitVec.or_zero]

theorem status1Operand_reserved (v : Word) : status1Operand v &&& 0x1781#16 = 0#16 := by
  rw [status1Operand, BitVec.and_assoc]
  exact BitVec.and_zero

theorem status2Operand_reserved (v : Word) (esc : Bool) :
    status2Operand v &&& (if esc then 0x0001#16 else 0x0007#16) = 0#16 := by
  rw [status2Operand, BitVec.and_assoc]
  cases esc <;> exact BitVec.and_zero

theorem sound_of_reset_vars {s : State} (h : s.vars = Vars.reset) : Sound s := by
  constructor <;> simp [h, Vars.reset]

/-- Settles O36: the reset values meet each invariant. -/
theorem resetStateIsSound : Obligations.ResetStateIsSound := sound_of_reset_vars rfl

section SoundSharedOperations

variable {s : State} (h : Sound s)

include h

theorem sound_begin : Sound (begin s) := { h with }

theorem sound_emit (e : Event) : Sound (emit e s) := { h with }

theorem sound_decrement : Sound (decrement s) := { h with }

theorem sound_reloadFromTimer : Sound (reloadFromTimer s) := { h with }

theorem sound_clearTimeoutCount : Sound (clearTimeoutCount s) :=
  { h with n_le_one := .inl rfl, latched_n_zero := fun _ => rfl }

theorem sound_cancelTick : Sound (cancelTick s) := { h with latched_idle := fun _ => rfl, halted_idle := fun _ => rfl }

theorem sound_consumeTick : Sound (consumeTick s) := { h with latched_idle := fun _ => rfl, halted_idle := fun _ => rfl }

/-- A tick is asked for only where V2 and V3 allow one. -/
theorem sound_requestTick (hlatch : s.vars.resetLatched = false) (hhalt : s.vars.control1.getLsbD 11 = false) :
    Sound (requestTick s) :=
  { h with
    latched_idle := fun c => absurd (hlatch.symm.trans c) Bool.false_ne_true
    halted_idle := fun c => absurd (hhalt.symm.trans c) Bool.false_ne_true }

theorem sound_disarm : Sound (disarm s) := sound_clearTimeoutCount (sound_cancelTick h)

theorem sound_arm (harm : armable s.vars = true) : Sound (arm s) := by
  obtain ⟨hhalt, _⟩ := (armable_iff s.vars).mp harm
  have hreload := sound_reloadFromTimer h
  unfold arm
  cases hlatch : s.vars.resetLatched
  · exact sound_requestTick hreload hlatch hhalt
  · exact hreload

/-- What `WR_CNT1` stores keeps V4; V3 is restored by the arming or disarming after it, so it is asked for here. -/
theorem sound_control1Written (v : Word)
    (hidle : (control1Written v s).vars.control1.getLsbD 11 = true → s.vars.tickPending = false) :
    Sound (control1Written v s) :=
  { h with halted_idle := hidle, control1_reserved := control1Operand_reserved v _ }

theorem sound_countTimeout (hn : s.vars.n = 0#2) (hlatch : s.vars.resetLatched = false) : Sound (countTimeout s) :=
  { h with
    n_le_one := .inr (by simp [countTimeout, hn])
    status1_reserved := or_and_eq_zero h.status1_reserved (by decide)
    latched_n_zero := fun c => absurd (hlatch.symm.trans c) Bool.false_ne_true }

/-- The reset path latches with no tick pending, so V2 holds of it; V9 needs `n` cleared before. -/
theorem sound_requestReset (hn : s.vars.n = 0#2) : Sound (requestReset s) :=
  { h with latched_idle := fun _ => rfl, halted_idle := fun _ => rfl, latched_n_zero := fun _ => hn }

/-- A second timeout: the pair of flags is in the writable part of Status1 by default, and of Status2 with `P_ESC_STS2`. -/
theorem sound_secondTimeout : Sound (markSecondTimeout (countTimeout s)) := by
  have htimeout : (s.vars.status1 ||| 0x0008#16) &&& 0x1781#16 = 0#16 := or_and_eq_zero h.status1_reserved (by decide)
  have hstatus2 := h.status2_reserved
  rw [markSecondTimeout_eq]
  refine { h with n_le_one := .inl rfl, latched_n_zero := fun _ => rfl, status1_reserved := ?_, status2_reserved := ?_ }
  · cases hesc : (countTimeout s).params.escSts2
    · exact or_and_eq_zero htimeout (by decide)
    · exact htimeout
  · change (if s.params.escSts2 then s.vars.status2 ||| 0x0006#16 else s.vars.status2) &&&
      (if s.params.escSts2 then 0x0001#16 else 0x0007#16) = 0#16
    cases hesc : s.params.escSts2 <;> rw [hesc] at hstatus2
    · exact hstatus2
    · exact or_and_eq_zero hstatus2 (by decide)

/-- `Escalate` on a block that is not latched; its tick is consumed before. -/
theorem sound_escalate (nr se : Bool) (hlatch : s.vars.resetLatched = false) : Sound (escalate nr se s) := by
  rcases escalate_cases nr se s with ⟨hn, e⟩ | ⟨_, _, e⟩ | ⟨_, _, e⟩ <;> rw [e]
  · exact sound_emit (sound_countTimeout h (h.n_le_one.resolve_right hn) hlatch) _
  · exact sound_emit (sound_secondTimeout h) _
  · exact sound_requestReset (sound_secondTimeout h) rfl

theorem sound_reloadAfterTimeout (hhalt : s.vars.control1.getLsbD 11 = false) : Sound (reloadAfterTimeout s) := by
  cases hlatch : s.vars.resetLatched
  · rw [reloadAfterTimeout_unlatched s hlatch]
    exact sound_requestTick (sound_reloadFromTimer h) hlatch hhalt
  · rw [reloadAfterTimeout_latched s hlatch]
    exact h

/-- A pending tick, by V2 and V3, finds the block neither latched nor halted. -/
theorem sound_countDown (nr se : Bool) (hpend : s.vars.tickPending = true) : Sound (countDown nr se s) := by
  have hlatch : s.vars.resetLatched = false :=
    eq_false_of_ne_true fun c => Bool.false_ne_true ((h.latched_idle c).symm.trans hpend)
  have hhalt : s.vars.control1.getLsbD 11 = false :=
    eq_false_of_ne_true fun c => Bool.false_ne_true ((h.halted_idle c).symm.trans hpend)
  have hdecrement := sound_decrement (sound_consumeTick h)
  rcases countDown_cases nr se s with ⟨_, e⟩ | ⟨_, e⟩ <;> rw [e]
  · exact sound_requestTick hdecrement hlatch hhalt
  · refine sound_reloadAfterTimeout (sound_escalate hdecrement nr se hlatch) ?_
    rw [(escalate_frame nr se _).control1]
    exact hhalt

end SoundSharedOperations

/-- `WR_CNT1`: a halted block is disarmed, so V3 holds again after the write. -/
theorem sound_wrCnt1 {v : Word} {s t : State} (h : Sound s) (hexec : exec (.wrCnt1 v) s = .next t) : Sound t := by
  rcases wrCnt1_cases hexec with ⟨harm, rfl⟩ | ⟨_, rfl⟩
  · obtain ⟨hhalt, _⟩ := (armable_iff _).mp harm
    exact sound_arm (sound_control1Written h v fun c => absurd (hhalt.symm.trans c) Bool.false_ne_true) harm
  · exact { sound_disarm h with halted_idle := fun _ => rfl, control1_reserved := control1Operand_reserved v _ }

/-- Every operation keeps the invariants. -/
theorem sound_exec {i : Instr} {s t : State} (h : Sound s) (hexec : exec i s = .next t) : Sound t := by
  cases i with
  | rdRld | rdDin | rdDout | rdSts1 | rdSts2 | rdCnt1 | rdCnt2 | rdMsg1 | rdMsg2 | rdWdcnt | rdSwirq | rdTmr | rdUnmapped off
  | wrCnt2 v | wrMsg1 v | wrMsg2 v | wrWdcnt v | wrSwirq v | wrTmr v | wrUnmapped off v =>
    cases hexec
    exact { h with }
  | wrDin v | wrDout v =>
    cases hexec
    exact { h with status1_reserved := or_and_eq_zero h.status1_reserved (by decide) }
  | wrSts1 v =>
    cases hexec
    exact { h with status1_reserved := status1Operand_reserved v }
  | wrSts2 v =>
    cases hexec
    exact { h with status2_reserved := status2Operand_reserved v _ }
  | wrRld v =>
    rcases wrRld_cases hexec with ⟨harm, rfl⟩ | ⟨_, rfl⟩
    · exact sound_arm (sound_clearTimeoutCount (sound_begin h)) harm
    · exact { sound_clearTimeoutCount h with }
  | wrCnt1 v => exact sound_wrCnt1 h hexec
  | tick nr se =>
    rcases tick_cases hexec with ⟨_, rfl⟩ | ⟨hpend, rfl⟩
    · exact sound_begin h
    · exact sound_countDown (sound_begin h) nr se hpend
  | init =>
    cases hexec
    exact sound_of_reset_vars rfl

/-- Settles O37: a step is idle or performs one operation. -/
theorem stepKeepsSound : Obligations.StepKeepsSound := by
  intro s t h hstep
  cases hinbox : s.inbox with
  | nil =>
    rw [step_nil hinbox] at hstep
    cases hstep
    exact sound_begin h
  | cons w rest =>
    rw [step_cons hinbox] at hstep
    exact sound_exec (s := { s with inbox := rest }) { h with } hstep

/-! ## A halted block (10_state R26, 41 R150) -/

/-- The induction over a sequence, once: what each of its operations keeps, from whatever state, the whole sequence keeps. -/
theorem runState_keeps {P : State → Prop} {ops : List Instr} {s : State}
    (hkeep : ∀ i ∈ ops, ∀ t u : State, P t → exec i t = .next u → P u) (h : P s) : P (runState ops s) := by
  induction ops generalizing s with
  | nil => exact h
  | cons i rest ih =>
    obtain ⟨t, ht, _⟩ := exec_answers i s
    rw [runState_cons ht]
    exact ih (fun j hj => hkeep j (List.mem_cons_of_mem i hj)) (hkeep i List.mem_cons_self s t h ht)

/-- Halted with no tick pending. -/
structure Stopped (s : State) : Prop where
  halt : s.vars.control1.getLsbD 11 = true
  idle : s.vars.tickPending = false

theorem not_armable_of_halt {v : Vars} (h : v.control1.getLsbD 11 = true) : armable v ≠ true := fun harm =>
  Bool.false_ne_true (((armable_iff v).mp harm).1.symm.trans h)

theorem stopped_of_stop {s t : State} (h : exec stop s = .next t) : Stopped t := by
  have hhalt : (control1Written 0x0800#16 s).vars.control1.getLsbD 11 = true := control1Operand_halt _ _
  rcases wrCnt1_cases h with ⟨harm, rfl⟩ | ⟨_, rfl⟩
  · exact absurd harm (not_armable_of_halt hhalt)
  · exact ⟨hhalt, rfl⟩

/-- No operation but `WR_CNT1` and `INIT` starts a stopped block: a kick finds it not armable, a tick is stale. -/
theorem exec_keeps_stopped {i : Instr} {s t : State} (hcnt1 : ∀ v, i ≠ .wrCnt1 v) (hinit : i ≠ .init) (h : Stopped s)
    (hexec : exec i s = .next t) : Stopped t := by
  obtain ⟨-, -, -, -, -, hcontrol1, -, -, -, -, -, -, -, hpending, -⟩ := writeMatrixHolds i s t hexec hinit
  have hsame : t.vars.control1 = s.vars.control1 := by
    by_contra hne
    obtain ⟨v, hv⟩ := hcontrol1 hne
    exact hcnt1 v hv
  refine ⟨hsame ▸ h.halt, ?_⟩
  by_cases hidle : t.vars.tickPending = s.vars.tickPending
  · rw [hidle, h.idle]
  · rcases hpending hidle with htick | ⟨v, rfl | rfl⟩
    · cases i with
      | tick nr se =>
        rw [exec_tick_stale nr se h.idle] at hexec
        cases hexec
        exact h.idle
      | _ => exact Bool.noConfusion htick
    · rcases wrRld_cases hexec with ⟨harm, rfl⟩ | ⟨_, rfl⟩
      · exact absurd harm (not_armable_of_halt h.halt)
      · exact h.idle
    · exact absurd rfl (hcnt1 v)

theorem ne_of_keepsControl1 {ops : List Instr} {i : Instr} (h : keepsControl1 ops = true) (hi : i ∈ ops) :
    (∀ v, i ≠ .wrCnt1 v) ∧ i ≠ .init := by
  have hkeeps := List.all_eq_true.mp h i hi
  constructor
  · rintro v rfl
    exact Bool.noConfusion hkeeps
  · rintro rfl
    exact Bool.noConfusion hkeeps

/-- Settles O45: `STOP` stops the block, and no operation of the sequence starts it again. -/
theorem stopHoldsUntilControlWrite : Obligations.StopHoldsUntilControlWrite := by
  intro ops s t nr se hstop hkeeps
  have hstopped : Stopped (runState ops t) := by
    refine runState_keeps (fun i hi u w hu hexec => ?_) (stopped_of_stop hstop)
    obtain ⟨hcnt1, hinit⟩ := ne_of_keepsControl1 hkeeps hi
    exact exec_keeps_stopped hcnt1 hinit hu hexec
  exact ⟨hstopped.idle, exec_tick_stale nr se hstopped.idle⟩

/-! ## Two blocks that agree on the engine's variables (41 R140, R144; 42 R160) -/

/-- Two blocks in the same operation: the engine's variables and what has been emitted so far agree. -/
structure SameSoFar (s t : State) : Prop extends SameEngine s t where
  events : s.out.events = t.out.events

theorem same_begin {s t : State} (h : SameEngine s t) : SameSoFar (begin s) (begin t) := { h with events := rfl }

theorem same_armable {s t : State} (h : SameEngine s t) : armable s.vars = armable t.vars := by
  unfold armable
  rw [h.halt, h.timerValue]

/-- `WR_CNT1` gives both blocks the operand's `HALT`; the other bits may differ. -/
theorem same_control1Written {s t : State} (h : SameEngine s t) (v : Word) :
    SameSoFar (control1Written v s) (control1Written v t) :=
  { h with halt := (control1Operand_halt v _).trans (control1Operand_halt v _).symm, events := rfl }

section SameSharedOperations

variable {s t : State} (h : SameSoFar s t)

include h

theorem same_emit (e : Event) : SameSoFar (emit e s) (emit e t) :=
  { h with events := congrArg (· ++ [e]) h.events }

theorem same_requestTick : SameSoFar (requestTick s) (requestTick t) := { h with tickPending := rfl }

theorem same_consumeTick : SameSoFar (consumeTick s) (consumeTick t) := { h with tickPending := rfl }

theorem same_decrement : SameSoFar (decrement s) (decrement t) :=
  { h with reloadCounter := congrArg (· - 1#16) h.reloadCounter }

theorem same_reloadFromTimer : SameSoFar (reloadFromTimer s) (reloadFromTimer t) :=
  { h with reloadCounter := h.timerValue }

theorem same_clearTimeoutCount : SameSoFar (clearTimeoutCount s) (clearTimeoutCount t) := { h with n := rfl }

theorem same_arm : SameSoFar (arm s) (arm t) := by
  have hreload := same_reloadFromTimer h
  unfold arm
  rw [h.resetLatched]
  split
  · exact hreload
  · exact same_requestTick hreload

theorem same_disarm : SameSoFar (disarm s) (disarm t) := { h with n := rfl, tickPending := rfl }

theorem same_countTimeout : SameSoFar (countTimeout s) (countTimeout t) :=
  { h with n := congrArg (· + 1#2) h.n }

/-- The flags may go to different registers, by each block's parameter; the engine reads neither. -/
theorem same_markSecondTimeout : SameSoFar (markSecondTimeout s) (markSecondTimeout t) := by
  rw [markSecondTimeout_eq s, markSecondTimeout_eq t]
  exact { h with n := rfl }

theorem same_requestReset : SameSoFar (requestReset s) (requestReset t) :=
  { h with tickPending := rfl, resetLatched := rfl, events := congrArg (· ++ [Event.wdtReset]) h.events }

theorem same_escalate (nr se : Bool) : SameSoFar (escalate nr se s) (escalate nr se t) := by
  have hcount := same_countTimeout h
  unfold escalate
  rw [hcount.n]
  simp only [deliverInterrupt_eq]
  split
  · split
    · exact same_emit (same_markSecondTimeout hcount) _
    · exact same_requestReset (same_markSecondTimeout hcount)
  · exact same_emit hcount _

theorem same_reloadAfterTimeout : SameSoFar (reloadAfterTimeout s) (reloadAfterTimeout t) := by
  unfold reloadAfterTimeout
  rw [h.resetLatched]
  split
  · exact h
  · exact same_requestTick (same_reloadFromTimer h)

theorem same_countDown (nr se : Bool) : SameSoFar (countDown nr se s) (countDown nr se t) := by
  have hdecrement := same_decrement (same_consumeTick h)
  simp only [countDown]
  rw [hdecrement.reloadCounter]
  split
  · exact same_reloadAfterTimeout (same_escalate hdecrement nr se)
  · exact same_requestTick hdecrement

end SameSharedOperations

/-- One operation on two blocks with the same engine. -/
theorem same_exec {i : Instr} {s t s' t' : State} (h : SameEngine s t) (hs : exec i s = .next s') (ht : exec i t = .next t') :
    SameSoFar s' t' := by
  have hbegin := same_begin h
  cases i with
  | rdRld | rdDin | rdDout | rdSts1 | rdSts2 | rdCnt1 | rdCnt2 | rdMsg1 | rdMsg2 | rdWdcnt | rdSwirq | rdTmr | rdUnmapped off
  | wrDin v | wrDout v | wrSts1 v | wrSts2 v | wrCnt2 v | wrMsg1 v | wrMsg2 v | wrWdcnt v | wrSwirq v | wrUnmapped off v =>
    cases hs
    cases ht
    exact { h with events := rfl }
  | wrTmr v =>
    cases hs
    cases ht
    exact { h with timerValue := rfl, events := rfl }
  | wrRld v =>
    rw [exec_wrRld, same_armable h] at hs
    rw [exec_wrRld] at ht
    cases hs
    cases ht
    split
    · exact same_arm (same_clearTimeoutCount hbegin)
    · exact { h with n := rfl, reloadCounter := rfl, events := rfl }
  | wrCnt1 v =>
    have hwritten := same_control1Written h v
    rw [exec_wrCnt1, same_armable hwritten.toSameEngine] at hs
    rw [exec_wrCnt1] at ht
    cases hs
    cases ht
    split
    · exact same_arm hwritten
    · exact same_disarm hwritten
  | tick nr se =>
    rw [exec_tick, h.tickPending] at hs
    rw [exec_tick] at ht
    cases hs
    cases ht
    split
    · exact same_countDown hbegin nr se
    · exact hbegin
  | init =>
    cases hs
    cases ht
    exact { reloadCounter := rfl, timerValue := rfl, halt := rfl, n := rfl, tickPending := rfl, resetLatched := rfl,
            events := rfl }

/-- Settles O42, by induction on the sequence. -/
theorem engineIgnoresEveryOtherRegister : Obligations.EngineIgnoresEveryOtherRegister := by
  intro ops
  induction ops with
  | nil => exact fun _ _ h => ⟨rfl, h⟩
  | cons i rest ih =>
    intro s t h
    obtain ⟨s', hs, _⟩ := exec_answers i s
    obtain ⟨t', ht, _⟩ := exec_answers i t
    have hone := same_exec h hs ht
    obtain ⟨hevents, hend⟩ := ih s' t' hone.toSameEngine
    rw [runEvents_cons hs, runEvents_cons ht, runState_cons hs, runState_cons ht, hone.events, hevents]
    exact ⟨rfl, hend⟩

end Sys2Proof.Machine

/-! PROOFS (spec chapter 20, the register space and the memory model). Reads and what a write leaves of every offset's reading,
repeated accesses, and the race of a kick with the expiring tick. -/

namespace Sys2Proof.Machine

/-- Settles O8: what every answer has in common begins with an answer. -/
theorem everyOperationCompletes : Obligations.EveryOperationCompletes := by
  intro i s
  obtain ⟨t, ht, _⟩ := exec_answers i s
  exact ⟨t, ht⟩

/-! ## Reads (20_memory R66) -/

/-- Every read, of a mapped offset or not, answers some value and does nothing else (40 R100). -/
theorem exec_read {i : Instr} (h : i.isRead = true) (s : State) :
    ∃ w : Word, exec i s = .next { s with out := ⟨some w, [], false, false⟩ } := by
  cases i with
  | rdRld | rdDin | rdDout | rdSts1 | rdSts2 | rdCnt1 | rdCnt2 | rdMsg1 | rdMsg2 | rdWdcnt | rdSwirq | rdTmr | rdUnmapped off =>
    exact ⟨_, answerRead_eq _ s⟩
  | _ => exact Bool.noConfusion h

/-- Settles O40: the answer of a read, and the common frame of every other operation. -/
theorem onlyReadsAnswerAndTheyChangeNothing : Obligations.OnlyReadsAnswerAndTheyChangeNothing := by
  refine fun i s t h => ⟨fun hread => ?_, (answerFrame_of_exec h).readValue_none⟩
  obtain ⟨w, hw⟩ := exec_read hread s
  rw [hw] at h
  cases h
  exact ⟨rfl, rfl, rfl, rfl, rfl⟩

/-! ## What every offset reads once one register is written (20_memory R64) -/

section RegReadOfWrite
variable (off : Offset) (v : Vars) (w : Word) (b : Byte)

theorem regRead_status1_written :
    regRead off { v with status1 := w } = if off = 0x0004#16 then w else regRead off v := by
  split <;> simp +decide [regRead, *]

theorem regRead_status2_written :
    regRead off { v with status2 := w } = if off = 0x0006#16 then w else regRead off v := by
  split <;> simp +decide [regRead, *]

theorem regRead_control2_written :
    regRead off { v with control2 := w } = if off = 0x000a#16 then w else regRead off v := by
  split <;> simp +decide [regRead, *]

theorem regRead_message1_written :
    regRead off { v with message1 := b } = if off = 0x000c#16 then zext16 b else regRead off v := by
  split <;> simp +decide [regRead, *]

theorem regRead_message2_written :
    regRead off { v with message2 := b } = if off = 0x000d#16 then zext16 b else regRead off v := by
  split <;> simp +decide [regRead, *]

theorem regRead_watchdogCount_written :
    regRead off { v with watchdogCount := b } = if off = 0x000e#16 then zext16 b else regRead off v := by
  split <;> simp +decide [regRead, *]

theorem regRead_irqSelect_written :
    regRead off { v with irqSelect := b } = if off = 0x0010#16 then zext16 b else regRead off v := by
  split <;> simp +decide [regRead, *]

theorem regRead_timerValue_written :
    regRead off { v with timerValue := w } = if off = 0x0012#16 then w else regRead off v := by
  split <;> simp +decide [regRead, *]

end RegReadOfWrite

/-- A byte register reads back the low byte of what was written to it, eight zero bits above (20_memory R63). -/
theorem zext16_lowByte (v : Word) : zext16 (lowByte v) = v &&& 0x00ff#16 := by
  apply BitVec.eq_of_toNat_eq
  simp only [zext16, lowByte, BitVec.toNat_setWidth, BitVec.extractLsb'_toNat, BitVec.toNat_and]
  rw [show (0x00ff#16).toNat = 2 ^ 8 - 1 from rfl, Nat.and_two_pow_sub_one_eq_mod]
  omega

/-- Settles O24, write by write: each is one update of the register at its own offset. -/
theorem storageWritesReachOneOffset : Obligations.StorageWritesReachOneOffset := by
  intro i s t v x off hmem h
  simp only [List.mem_cons, List.not_mem_nil, or_false, Prod.mk.injEq] at hmem
  suffices hread : ∀ other, regRead other t.vars = if other = off then x else regRead other s.vars from
    ⟨(hread off).trans (if_pos rfl), fun other hother => (hread other).trans (if_neg hother)⟩
  intro other
  rcases hmem with ⟨rfl, rfl, rfl⟩ | ⟨rfl, rfl, rfl⟩ | ⟨rfl, rfl, rfl⟩ | ⟨rfl, rfl, rfl⟩ | ⟨rfl, rfl, rfl⟩ | ⟨rfl, rfl, rfl⟩ |
    ⟨rfl, rfl, rfl⟩ | ⟨rfl, rfl, rfl⟩ <;> cases h
  · exact regRead_status1_written other s.vars (status1Operand v)
  · exact regRead_status2_written other s.vars (status2Operand v)
  · exact regRead_control2_written other s.vars _
  · rw [← zext16_lowByte]; exact regRead_message1_written other s.vars (lowByte v)
  · rw [← zext16_lowByte]; exact regRead_message2_written other s.vars (lowByte v)
  · rw [← zext16_lowByte]; exact regRead_watchdogCount_written other s.vars (lowByte v)
  · rw [← zext16_lowByte]; exact regRead_irqSelect_written other s.vars (lowByte v)
  · exact regRead_timerValue_written other s.vars _

/-! ## The second of two identical accesses (20_memory R73) -/

/-- Arming, latched or not: the counter loaded, and a tick asked for unless latched (41 R141). -/
theorem arm_eq (s : State) :
    arm s = { s with
      vars := { s.vars with reloadCounter := s.vars.timerValue, tickPending := s.vars.tickPending || !s.vars.resetLatched }
      out := { s.out with tickReq := s.out.tickReq || !s.vars.resetLatched } } := by
  cases hlatch : s.vars.resetLatched
  · simp [arm_unlatched s hlatch, hlatch]
  · simp [arm_latched s hlatch, hlatch]

/-- Whether a block is armable depends on Control1 and `timer_value` alone, and arming writes neither (41 R140). -/
theorem armable_arm (s : State) : armable (arm s).vars = armable s.vars := by
  rw [arm_eq]
  rfl

/-- Storing the same Control1 operand again stores what is there: the `LOCK` it keeps is the one it kept (40 R120). -/
theorem control1Operand_idem (v old : Word) : control1Operand v (control1Operand v old) = control1Operand v old := by
  simp only [control1Operand]
  ext i
  simp only [BitVec.getElem_or, BitVec.getElem_and]
  grind

/-- The register part of a `WR_CNT1` of an operand that is already stored changes nothing. -/
theorem control1Written_of_stored {v old : Word} {s : State} (h : s.vars.control1 = control1Operand v old) :
    control1Written v s = begin s := by
  have hsame : control1Operand v s.vars.control1 = s.vars.control1 := by rw [h, control1Operand_idem]
  rw [control1Written, hsame]
  rfl

/-- The block as a second identical access leaves it: as the first left it, no cancellation to be seen, since the first left no tick
to cancel. -/
def withoutCancel (t : State) : State := { t with out := { t.out with tickCancel := false } }

/-- An operation that arms, done again. -/
theorem arm_again {s : State} (h : s.out = Output.quiet) : arm (begin (arm s)) = withoutCancel (arm s) := by
  simp [arm_eq, begin, withoutCancel, h, Output.quiet]

/-- A Control1 write that disarms, done again. -/
theorem disarm_again {s : State} (h : s.out = Output.quiet) : disarm (begin (disarm s)) = withoutCancel (disarm s) := by
  simp [disarm_eq, begin, withoutCancel, h, Output.quiet]

/-- A kick leaves the block armable exactly if it found it so. -/
theorem armable_after_wrRld {v : Word} {s t : State} (h : exec (.wrRld v) s = .next t) : armable t.vars = armable s.vars := by
  rcases wrRld_cases h with ⟨_, rfl⟩ | ⟨_, rfl⟩
  · exact armable_arm _
  · rfl

/-- A Control1 write arms or disarms by the block it leaves. -/
theorem armable_after_wrCnt1 {v : Word} {s t : State} (h : exec (.wrCnt1 v) s = .next t) :
    armable t.vars = armable (control1Written v s).vars := by
  rcases wrCnt1_cases h with ⟨_, rfl⟩ | ⟨_, rfl⟩
  · exact armable_arm _
  · rfl

theorem wrRld_again {v : Word} {s t u : State} (ht : exec (.wrRld v) s = .next t) (hu : exec (.wrRld v) t = .next u) :
    u = withoutCancel t := by
  rw [exec_wrRld, armable_after_wrRld ht] at hu
  rcases wrRld_cases ht with ⟨harm, rfl⟩ | ⟨harm, rfl⟩
  · have hcount : clearTimeoutCount (begin (arm (clearTimeoutCount (begin s)))) = begin (arm (clearTimeoutCount (begin s))) := by
      rw [arm_eq]
      rfl
    rw [harm, hcount, if_pos rfl, arm_again rfl] at hu
    cases hu
    rfl
  · rw [harm] at hu
    cases hu
    rfl

theorem wrCnt1_again {v : Word} {s t u : State} (ht : exec (.wrCnt1 v) s = .next t) (hu : exec (.wrCnt1 v) t = .next u) :
    u = withoutCancel t := by
  have hstored : t.vars.control1 = control1Operand v s.vars.control1 := by
    rcases wrCnt1_cases ht with ⟨_, rfl⟩ | ⟨_, rfl⟩ <;> simp [arm_eq, disarm_eq, control1Written_vars]
  rw [exec_wrCnt1, control1Written_of_stored hstored, begin_vars, armable_after_wrCnt1 ht] at hu
  rcases wrCnt1_cases ht with ⟨harm, rfl⟩ | ⟨harm, rfl⟩
  · rw [harm, if_pos rfl, arm_again rfl] at hu
    cases hu
    rfl
  · rw [harm, if_neg Bool.false_ne_true, disarm_again rfl] at hu
    cases hu
    rfl

/-- The second of two identical accesses changes no variable and yields the first one's outputs, but for a cancellation. -/
theorem exec_again {i : Instr} {s t u : State} (htick : i.isTick = false) (ht : exec i s = .next t) (hu : exec i t = .next u) :
    u = withoutCancel t := by
  cases i with
  | rdRld | rdDin | rdDout | rdSts1 | rdSts2 | rdCnt1 | rdCnt2 | rdMsg1 | rdMsg2 | rdWdcnt | rdSwirq | rdTmr | rdUnmapped off
  | wrSts1 v | wrSts2 v | wrCnt2 v | wrMsg1 v | wrMsg2 v | wrWdcnt v | wrSwirq v | wrTmr v | wrUnmapped off v | init =>
    cases ht
    cases hu
    rfl
  | wrDin v | wrDout v =>
    cases ht
    cases hu
    simp [withoutCancel, emit, setVars, begin, BitVec.or_assoc, Output.quiet]
  | wrRld v => exact wrRld_again ht hu
  | wrCnt1 v => exact wrCnt1_again ht hu
  | tick nr se => exact Bool.noConfusion htick

/-- A kick or a Control1 write asks for a tick exactly if it leaves the block armable and finds it unlatched (41 R141). -/
theorem tickReq_of_arming {i : Instr} {v : Word} {s t : State} (hi : i = .wrRld v ∨ i = .wrCnt1 v) (h : exec i s = .next t) :
    t.out.tickReq = (armable t.vars && !s.vars.resetLatched) := by
  rcases hi with rfl | rfl
  · rw [armable_after_wrRld h]
    rcases wrRld_cases h with ⟨harm, rfl⟩ | ⟨harm, rfl⟩ <;> rw [harm]
    · rw [arm_eq]; rfl
    · rfl
  · rw [armable_after_wrCnt1 h]
    rcases wrCnt1_cases h with ⟨harm, rfl⟩ | ⟨harm, rfl⟩ <;> rw [harm]
    · rw [arm_eq]; rfl
    · rfl

/-- No other access asks for a tick. -/
theorem tickReq_of_not_arming {i : Instr} {s t : State} (htick : i.isTick = false) (hi : ∀ v, i ≠ .wrRld v ∧ i ≠ .wrCnt1 v)
    (h : exec i s = .next t) : t.out.tickReq = false := by
  cases i with
  | wrRld v | wrCnt1 v =>
    obtain ⟨hrld, hcnt1⟩ := hi v
    contradiction
  | tick nr se => exact Bool.noConfusion htick
  | _ => cases h; rfl

/-- Settles O41: the second access leaves the block as the first did, and what the first shows is said access by access. -/
theorem repeatedAccessesAreIdempotent : Obligations.RepeatedAccessesAreIdempotent := by
  intro i s t u htick _ ht hu
  obtain rfl := exec_again htick ht hu
  refine ⟨rfl, rfl, rfl, rfl, ?_, fun v hi => tickReq_of_arming hi ht, fun hi => tickReq_of_not_arming htick hi ht⟩
  rintro v rfl
  cases ht
  rfl

/-! ## The race of a kick with the expiring tick (60 R188, 92 D14) -/

/-- The bits of the counter that the expiry test looks at, as a number (41 R145). -/
theorem and_reloadMask_toNat (c : Word) : (c &&& 0x03ff#16).toNat = c.toNat % 1024 := by
  rw [BitVec.toNat_and]
  exact Nat.and_two_pow_sub_one_eq_mod c.toNat 10

theorem expired_iff (c : Word) : expired c = true ↔ c &&& 0x03ff#16 = 0x0000#16 := by
  simp [expired, Config.reloadMask]

/-- A freshly loaded counter is not at its last tick (40 R115, 41 R147). -/
theorem not_expired_of_loaded {tmr : Word} (hmin : 2 ≤ tmr.toNat) (hmax : tmr.toNat ≤ 0x03ff) :
    (tmr - 1#16) &&& 0x03ff#16 ≠ 0x0000#16 := by
  intro hzero
  have hmod : (tmr - 1#16).toNat % 1024 = 0 := by rw [← and_reloadMask_toNat, hzero]; rfl
  bv_omega

/-- A pending tick that is no timeout: the counter goes down by 1 and the next tick is asked for (41 R144 step 2). -/
theorem exec_tick_counting (nr se : Bool) {s : State} (hpend : s.vars.tickPending = true)
    (hcount : (s.vars.reloadCounter - 1#16) &&& 0x03ff#16 ≠ 0x0000#16) :
    exec (.tick nr se) s =
      .next { s with vars := { s.vars with reloadCounter := s.vars.reloadCounter - 1#16 }, out := ⟨none, [], true, false⟩ } := by
  rcases countDown_cases nr se (begin s) with ⟨_, h⟩ | ⟨hexp, _⟩
  · rw [exec_tick, hpend, if_pos rfl, h]
    simp [requestTick, decrement, consumeTick, setVars, begin, Output.quiet, hpend]
  · exact absurd ((expired_iff _).mp hexp) hcount

/-- A first timeout: the flag, the count, one interrupt by `smi_en`, and the countdown on from `timer_value` (42 R162). -/
theorem exec_tick_first_timeout (nr se : Bool) {s : State} (hpend : s.vars.tickPending = true)
    (hlatch : s.vars.resetLatched = false) (hn : s.vars.n = 0#2)
    (hexpired : (s.vars.reloadCounter - 1#16) &&& 0x03ff#16 = 0x0000#16) :
    exec (.tick nr se) s =
      .next { s with
        vars := { s.vars with reloadCounter := s.vars.timerValue, status1 := s.vars.status1 ||| 0x0008#16, n := 1#2 },
        out := ⟨none, [if se then .smi else .nmi], true, false⟩ } := by
  have hfirst : (decrement (consumeTick (begin s))).vars.n ≠ 1#2 := by simp [hn]
  rcases countDown_cases nr se (begin s) with ⟨hcount, _⟩ | ⟨_, h⟩
  · exact absurd ((expired_iff _).mpr hexpired) (ne_true_of_eq_false hcount)
  · rcases escalate_cases nr se (decrement (consumeTick (begin s))) with ⟨_, e⟩ | ⟨hsecond, _⟩ | ⟨hsecond, _⟩
    · rw [exec_tick, hpend, if_pos rfl, h, e, reloadAfterTimeout_unlatched]
      · simp [requestTick, reloadFromTimer, emit, countTimeout, decrement, consumeTick, setVars, begin, Output.quiet, hpend, hn]
      · exact hlatch
    · exact absurd hsecond hfirst
    · exact absurd hsecond hfirst

/-- A kick of a running block forces the counter to `timer_value`, clears `n` and asks for a tick, whatever its operand (40 R115). -/
theorem exec_wrRld_armed (v : Word) {s : State} (harm : armable s.vars = true) (hlatch : s.vars.resetLatched = false) :
    exec (.wrRld v) s =
      .next { s with vars := { s.vars with reloadCounter := s.vars.timerValue, n := 0#2, tickPending := true },
                     out := ⟨none, [], true, false⟩ } := by
  rw [exec_wrRld, harm, if_pos rfl, arm_unlatched]
  · rfl
  · exact hlatch

/-- A run of two operations: the events of both in order, and where the second leaves the block. -/
theorem run_pair {i j : Instr} {s t u : State} (hi : exec i s = .next t) (hj : exec j t = .next u) :
    runEvents [i, j] s = t.out.events ++ u.out.events ∧ runState [i, j] s = u := by
  rw [runEvents_cons hi, runEvents_cons hj, runState_cons hi, runState_cons hj]
  exact ⟨by simp, rfl⟩

/-- Settles O50: each order is two operations, each with its whole next state. -/
theorem kickAndExpiringTickInBothOrders : Obligations.KickAndExpiringTickInBothOrders := by
  intro s nr se hpend hlatch hhalt hmin hmax hn hexpired
  have harm : armable s.vars = true := (armable_iff _).mpr ⟨hhalt, hmin⟩
  obtain ⟨hkickEvents, hkickState⟩ := run_pair (exec_wrRld_armed 0x0001#16 harm hlatch)
    (exec_tick_counting nr se rfl (not_expired_of_loaded hmin hmax))
  obtain ⟨htickEvents, htickState⟩ := run_pair (exec_tick_first_timeout nr se hpend hlatch hn hexpired)
    (exec_wrRld_armed 0x0001#16 harm hlatch)
  refine ⟨hkickEvents, ?_, htickEvents, ?_⟩
  · rw [kick, hkickState, ← hn, ← hpend]
  · rw [kick, htickState, ← hn, ← hpend]

end Sys2Proof.Machine

/-! SUPPORT. The encoding (30_encoding): `encode` and `decode` undo each other up to the ignored bits, and the opcode table, row by row in
its priority, selects what `decode` answers. O1 to O5. -/

namespace Sys2Proof.Machine

/-! ## Encode after decode, and decode after encode -/

theorem decodeRead_unmapped {off : Offset} (h : off ∉ Config.mappedOffsets) : decodeRead off = .rdUnmapped off := by
  simp only [Config.mappedOffsets, List.mem_cons, List.not_mem_nil, or_false, not_or] at h
  simp [decodeRead, h]

theorem decodeWrite_unmapped {off : Offset} (v : Word) (h : off ∉ Config.mappedOffsets) :
    decodeWrite off v = .wrUnmapped off v := by
  simp only [Config.mappedOffsets, List.mem_cons, List.not_mem_nil, or_false, not_or] at h
  simp [decodeWrite, h]

@[simp] theorem encode_decodeRead (off : Offset) : encode (decodeRead off) = readWord off := by
  apply decodeRead_cases (fun off i => encode i = readWord off)
  case hu => intro off _; rfl
  all_goals rfl

@[simp] theorem encode_decodeWrite (off : Offset) (v : Word) : encode (decodeWrite off v) = writeWord off v := by
  apply decodeWrite_cases v (fun off i => encode i = writeWord off v)
  case hu => intro off _; rfl
  all_goals rfl

/-- Settles O1: each constructor's word is the word of its format, which decodes by its offset; the fall-through rows need their offset
to be unmapped. -/
theorem decodeEncodeRoundTrip : Obligations.DecodeEncodeRoundTrip := by
  intro i hwf
  cases i with
  | rdRld | rdDin | rdDout | rdSts1 | rdSts2 | rdCnt1 | rdCnt2 | rdMsg1 | rdMsg2 | rdWdcnt | rdSwirq | rdTmr =>
    exact decode_readWord _
  | wrRld v | wrDin v | wrDout v | wrSts1 v | wrSts2 v | wrCnt1 v | wrCnt2 v | wrMsg1 v | wrMsg2 v | wrWdcnt v | wrSwirq v
  | wrTmr v =>
    exact decode_writeWord _ v
  | rdUnmapped off =>
    have hoff : off ∉ Config.mappedOffsets := by simpa [Instr.wellFormed] using hwf
    exact (decode_readWord off).trans (decodeRead_unmapped hoff)
  | wrUnmapped off v =>
    have hoff : off ∉ Config.mappedOffsets := by simpa [Instr.wellFormed] using hwf
    exact (decode_writeWord off v).trans (decodeWrite_unmapped v hoff)
  | tick nr se => exact decode_tickWord nr se
  | init => exact decode_initWord

/-! ## The ignored bits (30_encoding R86) -/

/-- The low 16 bits of a `TICK` word: bit 1 is `no_reboot`, bit 0 is `smi_en`. -/
theorem tickFlags_getLsbD (nr se : Bool) (i : Nat) :
    ((BitVec.ofBool nr ++ BitVec.ofBool se).setWidth 16 : Word).getLsbD i =
      if i = 0 then se else if i = 1 then nr else false := by
  rw [BitVec.getLsbD_setWidth, BitVec.getLsbD_append]
  match i with
  | 0 | 1 => simp
  | i + 2 => simp

/-- The mask 0x300000003 keeps `kind` and the two flags of a `TICK`. -/
theorem and_tickMask (w : OpWord) :
    w &&& 0x300000003#34 =
      opWord (kindField w) 0#16 ((BitVec.ofBool (w.getLsbD 1) ++ BitVec.ofBool (w.getLsbD 0)).setWidth 16) := by
  have hmask : ∀ i, i < 34 → (0x300000003#34).getLsbD i = decide (i < 2 ∨ 32 ≤ i) := by decide
  apply BitVec.eq_of_getLsbD_eq
  intro i hi
  rw [BitVec.getLsbD_and, hmask i hi, opWord_getLsbD, tickFlags_getLsbD]
  by_cases hflag : i < 2
  · obtain rfl | rfl : i = 0 ∨ i = 1 := by omega
    · simp
    · simp
  · by_cases hkind : 32 ≤ i
    · simp [kindField, hkind, show ¬ i < 16 by omega, show ¬ i < 32 by omega, show i - 32 < 2 by omega,
        show 32 + (i - 32) = i by omega]
    · simp [hflag, hkind, show i ≠ 0 by omega, show i ≠ 1 by omega]

/-- The word with the bits its kind ignores made 0 (30_encoding R86). -/
def canonicalWord (w : OpWord) : OpWord :=
  if kindField w = 0#2 then w &&& 0x3FFFF0000#34
  else if kindField w = 1#2 then w
  else if kindField w = 2#2 then w &&& 0x300000003#34
  else w &&& 0x300000000#34

/-- The encoder writes the ignored bits as 0 and every other bit as it was. -/
theorem encode_decode (w : OpWord) : encode (decode w) = canonicalWord w := by
  rcases decode_by_kind w with ⟨hkind, hdec⟩ | ⟨hkind, hdec⟩ | ⟨hkind, hdec⟩ | ⟨hkind, hdec⟩ <;> rw [hdec]
  · have hcanon : canonicalWord w = w &&& 0x3FFFF0000#34 := by simp [canonicalWord, hkind]
    rw [hcanon, and_exactMask, hkind, encode_decodeRead, readWord]
  · have hcanon : canonicalWord w = w := by simp [canonicalWord, hkind]
    rw [hcanon, encode_decodeWrite, writeWord, ← hkind, opWord_fields]
  · have hcanon : canonicalWord w = w &&& 0x300000003#34 := by simp [canonicalWord, hkind]
    rw [hcanon, and_tickMask, hkind]
    rfl
  · have hcanon : canonicalWord w = w &&& 0x300000000#34 := by simp [canonicalWord, hkind]
    rw [hcanon, and_kindMask, hkind]
    rfl

/-- Settles O2: the canonical word is what the encoder writes for the decoded operation, which is well-formed, so the round trip of O1
decodes it to the same operation. -/
theorem ignoredBitsAreIgnoredAndWrittenZero : Obligations.IgnoredBitsAreIgnoredAndWrittenZero := by
  intro w canonical hcanonical
  have henc : encode (decode w) = canonical := (encode_decode w).trans hcanonical.symm
  exact ⟨decode_wellFormed w, henc ▸ decodeEncodeRoundTrip _ (decode_wellFormed w), henc⟩

/-! ## The rows of the opcode table (30_encoding R82, R85) -/

/-- What the rows tried first have in common: a read's or a write's pattern, at a mapped offset. -/
theorem exactRows_shape : ∀ r ∈ exactRows,
    r.mask = 0x3FFFF0000#34 ∧ kindField r.pattern ∈ [0#2, 1#2] ∧ offField r.pattern ∈ Config.mappedOffsets := by decide

theorem fallThroughRows_mask : ∀ r ∈ fallThroughRows, r.mask = 0x300000000#34 := by decide

/-- A word that a row tried first matches is a read or a write of a mapped offset. -/
theorem fields_of_exactRow_matches {r : Row} {w : OpWord} (hr : r ∈ exactRows) (h : r.matches w = true) :
    kindField w ∈ [0#2, 1#2] ∧ offField w ∈ Config.mappedOffsets := by
  obtain ⟨hmask, hkind, hoff⟩ := exactRows_shape r hr
  have hpattern : opWord (kindField w) (offField w) 0#16 = r.pattern := by
    simpa [Row.matches, hmask, and_exactMask] using h
  rw [← hpattern] at hkind hoff
  simpa using And.intro hkind hoff

/-- No row looks at the low 16 bits. -/
theorem matches_opWord {r : Row} (hr : r ∈ exactRows ++ fallThroughRows) (k : BitVec 2) (off : Offset) (v : Word) :
    r.matches (opWord k off v) = r.matches (opWord k off 0#16) := by
  rcases List.mem_append.mp hr with hexact | hfall
  · simp [Row.matches, (exactRows_shape r hexact).1, and_exactMask]
  · simp [Row.matches, fallThroughRows_mask r hfall, and_kindMask]

theorem firstRow_opWord (k : BitVec 2) (off : Offset) (v : Word) : firstRow (opWord k off v) = firstRow (opWord k off 0#16) :=
  List.find?_congr fun _ hr => matches_opWord hr k off v

/-- A word that is no read and no write of a mapped offset selects the row of its kind. -/
theorem firstRow_fallThrough {k : BitVec 2} {off : Offset} (v : Word) (h : k ∈ [0#2, 1#2] → off ∉ Config.mappedOffsets) :
    firstRow (opWord k off v) = fallThroughRows.find? (fun r => r.matches (opWord k 0#16 0#16)) := by
  have hexact : exactRows.find? (fun r => r.matches (opWord k off v)) = none := by
    rw [List.find?_eq_none]
    intro r hr hmatch
    obtain ⟨hkind, hoff⟩ := fields_of_exactRow_matches hr hmatch
    rw [kindField_opWord] at hkind
    rw [offField_opWord] at hoff
    exact h hkind hoff
  rw [firstRow, List.find?_append, hexact, Option.none_or]
  apply List.find?_congr
  intro r hr
  simp [Row.matches, fallThroughRows_mask r hr, and_kindMask]

/-- The mnemonic of the row that a word selects. -/
def selectedMnemonic (w : OpWord) : Option String := (firstRow w).map Row.mnemonic

theorem selectedMnemonic_opWord (k : BitVec 2) (off : Offset) (v : Word) :
    selectedMnemonic (opWord k off v) = selectedMnemonic (opWord k off 0#16) := by
  rw [selectedMnemonic, firstRow_opWord, selectedMnemonic]

theorem selectedMnemonic_fallThrough {k : BitVec 2} {off : Offset} (v : Word)
    (h : k ∈ [0#2, 1#2] → off ∉ Config.mappedOffsets) :
    selectedMnemonic (opWord k off v) =
      (fallThroughRows.find? (fun r => r.matches (opWord k 0#16 0#16))).map Row.mnemonic := by
  rw [selectedMnemonic, firstRow_fallThrough v h]

theorem selectedMnemonic_read (off : Offset) (v : Word) :
    selectedMnemonic (opWord 0#2 off v) = some (decodeRead off).mnemonic := by
  rw [selectedMnemonic_opWord]
  apply decodeRead_cases (fun off i => selectedMnemonic (opWord 0#2 off 0#16) = some i.mnemonic)
  case hu => exact fun off hoff => selectedMnemonic_fallThrough 0#16 fun _ => hoff
  all_goals rfl

theorem selectedMnemonic_write (off : Offset) (v : Word) :
    selectedMnemonic (opWord 1#2 off v) = some (decodeWrite off v).mnemonic := by
  rw [selectedMnemonic_opWord]
  apply decodeWrite_cases v (fun off i => selectedMnemonic (opWord 1#2 off 0#16) = some i.mnemonic)
  case hu => exact fun off hoff => selectedMnemonic_fallThrough 0#16 fun _ => hoff
  all_goals rfl

/-- The first row a word belongs to is the row of the operation it decodes to. -/
theorem selectedMnemonic_eq (w : OpWord) : selectedMnemonic w = some (decode w).mnemonic := by
  rcases decode_by_kind w with ⟨hkind, hdec⟩ | ⟨hkind, hdec⟩ | ⟨hkind, hdec⟩ | ⟨hkind, hdec⟩ <;>
    rw [hdec, ← opWord_fields w, hkind]
  · rw [selectedMnemonic_read, offField_opWord]
  · rw [selectedMnemonic_write, offField_opWord, valField_opWord]
  · exact selectedMnemonic_fallThrough (valField w) fun hkinds => absurd hkinds (by decide)
  · exact selectedMnemonic_fallThrough (valField w) fun hkinds => absurd hkinds (by decide)

/-- Settles O3: every word selects the row of its operation, and an offset outside the twelve reaches the fall-through row. -/
theorem decodeFollowsTablePriority : Obligations.DecodeFollowsTablePriority :=
  ⟨fun w => Option.map_eq_some_iff.mp (selectedMnemonic_eq w), fun off v hoff =>
    ⟨(decode_readWord off).trans (decodeRead_unmapped hoff), (decode_writeWord off v).trans (decodeWrite_unmapped v hoff)⟩⟩

/-! ## Words of the spec, written out (30_encoding R81, R90) -/

/-- Settles O4: thirteen closed encodings. -/
theorem workedEncodingsHold : Obligations.WorkedEncodingsHold := by
  unfold Obligations.WorkedEncodingsHold
  decide

/-- Settles O5: twelve closed decodings. -/
theorem writtenOutWordsDecode : Obligations.WrittenOutWordsDecode := by
  unfold Obligations.WrittenOutWordsDecode
  decide

end Sys2Proof.Machine

/-! PROOFS (spec chapter 40, register access). The reads and writes of the twelve registers and of the unmapped offsets, operation by
operation and by offset, the one-way lock, and the guest that kicks in time. O10 to O23, O38 and O49. -/

namespace Sys2Proof.Machine

/-! ## Reads (40 R100 to R113) -/

theorem zext16_eq_append (b : Byte) : zext16 b = 0#8 ++ b := BitVec.setWidth_eq_append (by decide)

/-- The answer of a read of an 8-bit register, its value written as eight zero bits and the byte. -/
theorem answerRead_byte (b : Byte) (s : State) :
    answerRead (zext16 b) s = .next { s with out := ⟨some (0#8 ++ b), [], false, false⟩ } := by
  rw [answerRead_eq, zext16_eq_append]

theorem regRead_unmapped {off : Offset} (h : off ∉ Config.mappedOffsets) (v : Vars) : regRead off v = 0x0000#16 := by
  simp only [Config.mappedOffsets, List.mem_cons, List.not_mem_nil, or_false, not_or] at h
  simp [regRead, h]

/-- Settles O10: each is the answer of the register's 16 bits. -/
theorem wordReadsReturnStoredValue : Obligations.WordReadsReturnStoredValue := fun s =>
  ⟨answerRead_eq s.vars.reloadCounter s, answerRead_eq s.vars.status1 s, answerRead_eq s.vars.status2 s,
    answerRead_eq s.vars.control1 s, answerRead_eq s.vars.control2 s, answerRead_eq s.vars.timerValue s⟩

/-- Settles O11: each is the answer of the register's byte. -/
theorem byteReadsZeroExtend : Obligations.ByteReadsZeroExtend := fun s =>
  ⟨answerRead_byte s.vars.dataIn s, answerRead_byte s.vars.dataOut s, answerRead_byte s.vars.message1 s,
    answerRead_byte s.vars.message2 s, answerRead_byte s.vars.watchdogCount s, answerRead_byte s.vars.irqSelect s⟩

/-- Settles O12: the fall-through read, and that an offset outside the twelve decodes to it. -/
theorem unmappedReadsReturnZero : Obligations.UnmappedReadsReturnZero := by
  refine ⟨fun _ s => answerRead_eq 0x0000#16 s, fun off s hoff => ?_⟩
  rw [decode_readWord, exec_decodeRead, regRead_unmapped hoff]

/-- Settles O13: reading by offset is `RegRead`, whose thirteen cases are its definition's. -/
theorem busReadIsRegRead : Obligations.BusReadIsRegRead := by
  refine ⟨fun off s => ?_, fun v => ?_, fun off v hoff => regRead_unmapped hoff v, fun _ _ _ _ _ => rfl⟩
  · rw [decode_readWord, exec_decodeRead]
  · simp only [← zext16_eq_append]
    exact ⟨rfl, rfl, rfl, rfl, rfl, rfl, rfl, rfl, rfl, rfl, rfl, rfl⟩

/-! ## Writes by offset (40 R114, R127) -/

/-- A write of an unmapped offset only clears the outputs of the operation before (40 R127). -/
theorem exec_wrUnmapped (off : Offset) (v : Word) (s : State) :
    exec (.wrUnmapped off v) s = .next { s with out := ⟨none, [], false, false⟩ } := rfl

theorem regWrite_unmapped {off : Offset} (h : off ∉ Config.mappedOffsets) (v : Word) (s : State) :
    regWrite off v s = exec (.wrUnmapped off v) s := by
  rw [← exec_decodeWrite, decodeWrite_unmapped v h]

/-- Every write answers a next state, and no read value with it. -/
theorem regWrite_answers (off : Offset) (v : Word) (s : State) :
    ∃ t : State, regWrite off v s = .next t ∧ t.out.readValue = none := by
  obtain ⟨t, ht, hframe⟩ := exec_answers (decodeWrite off v) s
  rw [exec_decodeWrite] at ht
  exact ⟨t, ht, hframe.readValue_none (decodeWrite_isRead off v)⟩

/-- Settles O14: writing by offset is `RegWrite`, whose thirteen cases are its definition's. -/
theorem busWriteIsRegWrite : Obligations.BusWriteIsRegWrite := by
  refine ⟨fun off v s => ?_, fun v s => ?_, fun off v s hoff => regWrite_unmapped hoff v s, regWrite_answers⟩
  · rw [decode_writeWord, exec_decodeWrite]
  · exact ⟨rfl, rfl, rfl, rfl, rfl, rfl, rfl, rfl, rfl, rfl, rfl, rfl⟩

/-- Settles O17: the fall-through write, and that an offset outside the twelve selects it. -/
theorem unmappedWriteHasNoEffect : Obligations.UnmappedWriteHasNoEffect := by
  refine ⟨exec_wrUnmapped, fun off v s hoff => ?_⟩
  rw [decode_writeWord, exec_decodeWrite, regWrite_unmapped hoff, exec_wrUnmapped]

/-! ## Writes that store (40 R116 to R119, R121 to R126) -/

/-- Settles O15: each is one update of the register's own field. -/
theorem plainStorageWritesStoreOperand : Obligations.PlainStorageWritesStoreOperand :=
  fun _ _ => ⟨rfl, rfl, rfl, rfl, rfl⟩

/-- Settles O16: one update of `timer_value`, which `armable` then reads. -/
theorem timerWriteStoresAndDoesNotArm : Obligations.TimerWriteStoresAndDoesNotArm :=
  fun v s => ⟨rfl, armable_iff { s.vars with timerValue := v }⟩

/-- Settles O18: the byte and the flag stored, the event emitted. -/
theorem dataInWriteEmitsSmi : Obligations.DataInWriteEmitsSmi := fun _ _ => rfl

/-- Settles O19: the byte and the flag stored. -/
theorem dataOutWriteSetsFlagSilently : Obligations.DataOutWriteSetsFlagSilently := fun _ _ => rfl

/-- Bits outside a mask are 0 in a masked word. -/
theorem and_mask_and_of_disjoint {w : Nat} (v : BitVec w) {mask other : BitVec w} (h : mask &&& other = 0#w) :
    (v &&& mask) &&& other = 0#w := by
  rw [BitVec.and_assoc, h, BitVec.and_zero]

/-- Settles O21: one update of Status2, its low three bits outside the mask. -/
theorem status2WriteIsMaskedAssignment : Obligations.Status2WriteIsMaskedAssignment :=
  fun v _ => ⟨rfl, and_mask_and_of_disjoint v (by decide)⟩

/-! ## The masked-in bits of Status1 (40 R118, 10_state R24) -/

/-- Or-ing bits outside a mask into a word leaves its masked part alone. -/
theorem or_and_of_disjoint {w : Nat} (x : BitVec w) {bits mask : BitVec w} (h : bits &&& mask = 0#w) :
    (x ||| bits) &&& mask = x &&& mask := by
  rw [BitVec.and_or_distrib_right, h, BitVec.or_zero]

/-- The seven bits of Status1 that `WR_STS1` takes from its operand are the same in both blocks. -/
def SameMaskedStatus1 (s t : State) : Prop := t.vars.status1 &&& 0xe870#16 = s.vars.status1 &&& 0xe870#16

theorem countTimeout_keeps_masked_status1 (s : State) : SameMaskedStatus1 s (countTimeout s) :=
  or_and_of_disjoint _ (by decide)

theorem markSecondTimeout_keeps_masked_status1 (s : State) : SameMaskedStatus1 s (markSecondTimeout s) := by
  rw [SameMaskedStatus1, markSecondTimeout_eq, setVars_vars]
  cases s.params.escSts2
  · exact or_and_of_disjoint _ (by decide)
  · rfl

theorem escalate_keeps_masked_status1 (nr se : Bool) (s : State) : SameMaskedStatus1 s (escalate nr se s) := by
  have hsecond : SameMaskedStatus1 s (markSecondTimeout (countTimeout s)) :=
    (markSecondTimeout_keeps_masked_status1 _).trans (countTimeout_keeps_masked_status1 s)
  rcases escalate_cases nr se s with ⟨_, e⟩ | ⟨_, _, e⟩ | ⟨_, _, e⟩ <;> rw [e]
  · exact countTimeout_keeps_masked_status1 s
  · exact hsecond
  · exact hsecond

theorem reloadAfterTimeout_status1 (s : State) : (reloadAfterTimeout s).vars.status1 = s.vars.status1 := by
  unfold reloadAfterTimeout
  split <;> rfl

theorem countDown_keeps_masked_status1 (nr se : Bool) (s : State) : SameMaskedStatus1 s (countDown nr se s) := by
  rcases countDown_cases nr se s with ⟨_, e⟩ | ⟨_, e⟩ <;> rw [e]
  · rfl
  · rw [SameMaskedStatus1, reloadAfterTimeout_status1]
    exact escalate_keeps_masked_status1 nr se (decrement (consumeTick s))

/-- Besides `WR_STS1` and `INIT`, only a data write or a tick writes Status1, and each or-s in flags outside the mask. -/
theorem exec_keeps_masked_status1 {i : Instr} {s t : State} (h : exec i s = .next t) (hsts1 : ∀ v, i ≠ .wrSts1 v)
    (hinit : i ≠ .init) : SameMaskedStatus1 s t := by
  obtain ⟨-, -, -, hstatus1, -⟩ := writeMatrixHolds i s t h hinit
  by_cases hsame : t.vars.status1 = s.vars.status1
  · rw [SameMaskedStatus1, hsame]
  · rcases hstatus1 hsame with htick | ⟨v, rfl | rfl | rfl⟩
    · cases i with
      | tick nr se =>
        rcases tick_cases h with ⟨_, rfl⟩ | ⟨_, rfl⟩
        · rfl
        · exact countDown_keeps_masked_status1 nr se (begin s)
      | _ => exact Bool.noConfusion htick
    · cases h
      exact or_and_of_disjoint _ (by decide)
    · cases h
      exact or_and_of_disjoint _ (by decide)
    · exact absurd rfl (hsts1 v)

/-- Settles O20: one update of Status1 under its mask, and what every other operation keeps of the masked-in bits. -/
theorem status1WriteIsMaskedAssignment : Obligations.Status1WriteIsMaskedAssignment :=
  ⟨fun _ _ => rfl, fun v => and_mask_and_of_disjoint v (by decide), fun _ _ _ => exec_keeps_masked_status1⟩

/-! ## The two writes that arm (40 R115, R120; 41 R140 to R142) -/

theorem not_armable_iff (v : Vars) : armable v ≠ true ↔ v.control1.getLsbD 11 = true ∨ v.timerValue.toNat ≤ 1 := by
  rw [ne_eq, armable_iff, not_and_or, Bool.not_eq_false, Nat.not_lt]

/-- A kick of an armable block, latched or not: the operand plays no part (40 R115). -/
theorem exec_wrRld_armable (v : Word) {s : State} (h : armable s.vars = true) :
    exec (.wrRld v) s =
      .next { s with
        vars := { s.vars with n := 0#2, reloadCounter := s.vars.timerValue,
                              tickPending := s.vars.tickPending || !s.vars.resetLatched },
        out := ⟨none, [], !s.vars.resetLatched, false⟩ } := by
  rw [exec_wrRld, if_pos h, arm_eq]
  rfl

/-- A Reload write of a block that is not armable stores its operand (40 R115, 92 D19). -/
theorem exec_wrRld_not_armable (v : Word) {s : State} (h : armable s.vars ≠ true) :
    exec (.wrRld v) s =
      .next { s with vars := { s.vars with n := 0#2, reloadCounter := v }, out := ⟨none, [], false, false⟩ } := by
  rw [exec_wrRld, if_neg h]
  rfl

/-- Settles O22: armable or not, and V3 for the halted block. -/
theorem reloadWriteKicksOrStores : Obligations.ReloadWriteKicksOrStores := fun v _ =>
  ⟨fun hhalt htimer => exec_wrRld_armable v ((armable_iff _).mpr ⟨hhalt, htimer⟩),
    fun hdead => exec_wrRld_not_armable v ((not_armable_iff _).mpr hdead), fun hsound => hsound.halted_idle⟩

/-- A Control1 write that leaves the block armable arms it, and `n` stays as it was (92 D12). -/
theorem exec_wrCnt1_armable (v : Word) {s : State} (h : armable (control1Written v s).vars = true) :
    exec (.wrCnt1 v) s =
      .next { s with
        vars := { s.vars with control1 := control1Operand v s.vars.control1, reloadCounter := s.vars.timerValue,
                              tickPending := s.vars.tickPending || !s.vars.resetLatched },
        out := ⟨none, [], !s.vars.resetLatched, false⟩ } := by
  rw [exec_wrCnt1, if_pos h, arm_eq]
  rfl

/-- A Control1 write that leaves the block not armable disarms it; a cancellation shows if a tick was pending (log 4). -/
theorem exec_wrCnt1_not_armable (v : Word) {s : State} (h : armable (control1Written v s).vars ≠ true) :
    exec (.wrCnt1 v) s =
      .next { s with
        vars := { s.vars with control1 := control1Operand v s.vars.control1, tickPending := false, n := 0#2 },
        out := ⟨none, [], false, s.vars.tickPending⟩ } := by
  rw [exec_wrCnt1, if_neg h, disarm_eq]
  rfl

/-- Settles O23: armable or not after the write, and the three bits of the stored value that matter. -/
theorem control1WriteArmsOrDisarms : Obligations.Control1WriteArmsOrDisarms := by
  rintro v c s (rfl : c = control1Operand v s.vars.control1)
  refine ⟨fun hhalt htimer => exec_wrCnt1_armable v ((armable_iff _).mpr ⟨hhalt, htimer⟩),
    fun hdead => exec_wrCnt1_not_armable v ((not_armable_iff _).mpr hdead), control1Operand_reserved v _, ?_,
    control1Operand_halt v _⟩
  rw [control1Operand_lock, Bool.or_comm]

/-! ## The one-way lock (10_state R40 V7, 70 R224) -/

theorem ne_init_of_noInit {ops : List Instr} {i : Instr} (h : noInit ops = true) (hi : i ∈ ops) : i ≠ .init :=
  bne_iff_ne.mp (List.all_eq_true.mp h i hi)

/-- Settles O38: `exec_keeps_lock` along the sequence; a read of Control1 returns all its bits. -/
theorem lockStaysSetUntilInit : Obligations.LockStaysSetUntilInit := by
  intro ops s hnoInit hlock
  have hend : (runState ops s).vars.control1.getLsbD 12 = true :=
    runState_keeps (P := fun u => u.vars.control1.getLsbD 12 = true)
      (fun i hi t u ht hexec => exec_keeps_lock hexec (ne_init_of_noInit hnoInit hi) ht) hlock
  exact ⟨hend, _, _, answerRead_eq _ _, rfl, hend⟩

/-! ## A guest that kicks in time (70 R219; 41 R147, R149) -/

theorem runEvents_append (xs ys : List Instr) (s : State) :
    runEvents (xs ++ ys) s = runEvents xs s ++ runEvents ys (runState xs s) := by
  simp [runEvents, runOutputs_append]

/-- A tick that finds the counter neither at its last tick nor beyond 10 bits emits nothing and takes at most one from it: it is stale,
or it counts. -/
theorem exec_tick_before_expiry (nr se : Bool) {s : State} (hmin : 2 ≤ s.vars.reloadCounter.toNat)
    (hmax : s.vars.reloadCounter.toNat ≤ 0x03ff) :
    ∃ (t : State) (c : Word), exec (.tick nr se) s = .next t ∧ t.out.events = [] ∧
      t.vars = { s.vars with reloadCounter := c } ∧
      s.vars.reloadCounter.toNat ≤ c.toNat + 1 ∧ c.toNat ≤ 0x03ff := by
  cases hpend : s.vars.tickPending
  · exact ⟨_, s.vars.reloadCounter, exec_tick_stale nr se hpend, rfl, rfl, Nat.le_succ _, hmax⟩
  · have htick := exec_tick_counting nr se hpend (not_expired_of_loaded hmin hmax)
    exact ⟨_, s.vars.reloadCounter - 1#16, htick, rfl, rfl, by bv_omega, by bv_omega⟩

/-- Fewer ticks than the counter holds emit nothing and touch only the counter. -/
theorem run_ticks_before_expiry (nr se : Bool) (g : Nat) {s : State} (hgap : g < s.vars.reloadCounter.toNat)
    (hmax : s.vars.reloadCounter.toNat ≤ 0x03ff) :
    runEvents (ticks g nr se) s = [] ∧
      ∃ c : Word, (runState (ticks g nr se) s).vars = { s.vars with reloadCounter := c } := by
  induction g generalizing s with
  | zero => exact ⟨rfl, s.vars.reloadCounter, rfl⟩
  | succ g ih =>
    obtain ⟨t, c, ht, hquiet, hvars, hdown, hle⟩ := exec_tick_before_expiry nr se (by omega) hmax
    have hcounter : t.vars.reloadCounter.toNat = c.toNat := by rw [hvars]
    obtain ⟨hevents, d, hend⟩ := ih (s := t) (by omega) (by omega)
    rw [ticks, List.replicate_succ, runEvents_cons ht, runState_cons ht, hquiet]
    exact ⟨hevents, d, by rw [← ticks, hend, hvars]⟩

/-- One period of the guest: a kick and fewer ticks than it loads. -/
theorem run_kick_and_ticks (nr se : Bool) {g : Nat} {s : State} (harm : armable s.vars = true)
    (hmax : s.vars.timerValue.toNat ≤ 0x03ff) (hgap : g < s.vars.timerValue.toNat) :
    runEvents (kick :: ticks g nr se) s = [] ∧
      ∃ (c : Word) (k : BitVec 2) (p : Bool), (runState (kick :: ticks g nr se) s).vars =
        { s.vars with reloadCounter := c, n := k, tickPending := p } := by
  obtain ⟨t, ht, hquiet, hvars⟩ : ∃ t : State, exec kick s = .next t ∧ t.out.events = [] ∧
      t.vars = { s.vars with n := 0#2, reloadCounter := s.vars.timerValue,
                             tickPending := s.vars.tickPending || !s.vars.resetLatched } :=
    ⟨_, exec_wrRld_armable 0x0001#16 harm, rfl, rfl⟩
  have hloaded : t.vars.reloadCounter = s.vars.timerValue := by rw [hvars]
  obtain ⟨hevents, c, hend⟩ := run_ticks_before_expiry nr se g (s := t) (hloaded ▸ hgap) (hloaded ▸ hmax)
  rw [runEvents_cons ht, runState_cons ht, hquiet]
  exact ⟨hevents, c, _, _, by rw [hend, hvars]⟩

/-- Settles O49, by induction on the periods: each leaves Control1 and `timer_value` to the next as it found them. -/
theorem timelyKicksPreventEveryTimeout : Obligations.TimelyKicksPreventEveryTimeout := by
  intro s nr se gaps hhalt hmin hmax hgaps
  induction gaps generalizing s with
  | nil => exact ⟨rfl, s.vars.reloadCounter, s.vars.n, s.vars.tickPending, rfl⟩
  | cons g rest ih =>
    have harm : armable s.vars = true := (armable_iff _).mpr ⟨hhalt, hmin⟩
    obtain ⟨hfirst, c, k, p, hperiod⟩ := run_kick_and_ticks nr se harm hmax (hgaps g List.mem_cons_self)
    have hcontrol1 : (runState (kick :: ticks g nr se) s).vars.control1 = s.vars.control1 := by rw [hperiod]
    have htimer : (runState (kick :: ticks g nr se) s).vars.timerValue = s.vars.timerValue := by rw [hperiod]
    obtain ⟨hlater, c', k', p', hend⟩ := ih (runState (kick :: ticks g nr se) s) (by rw [hcontrol1]; exact hhalt)
      (by rw [htimer]; exact hmin) (by rw [htimer]; exact hmax)
      (fun g' hg' => by rw [htimer]; exact hgaps g' (List.mem_cons_of_mem g hg'))
    rw [List.flatMap_cons, runEvents_append, runState_append, hfirst, hlater]
    exact ⟨rfl, c', k', p', by rw [hend, hperiod]⟩

end Sys2Proof.Machine

/-! PROOFS (spec chapter 41, the countdown engine). What a pending tick does, when the timeout comes, what sets and withdraws the tick
request, and the timed refinement. -/

namespace Sys2Proof.Machine

/-! ## Ticks to expiry (41 R144, R145, R147) -/

/-- Settles O26: the counting tick, and the wrap at 0. -/
theorem tickCountsDown : Obligations.TickCountsDown :=
  ⟨fun nr se _ hpend hcount => exec_tick_counting nr se hpend hcount, by decide, by decide⟩

theorem ticksToExpiry_eq (c : Word) : ticksToExpiry c = (c - 1#16).toNat % 1024 + 1 := by
  rw [ticksToExpiry, and_reloadMask_toNat]

/-- The counters whose next tick is a timeout are those with one tick to expiry. -/
theorem ticksToExpiry_eq_one_iff (c : Word) : ticksToExpiry c = 1 ↔ (c - 1#16) &&& 0x03ff#16 = 0x0000#16 := by
  rw [ticksToExpiry, Nat.add_eq_right, BitVec.toNat_eq]
  rfl

/-- A counting tick brings the expiry one tick nearer. -/
theorem ticksToExpiry_pred {c : Word} (hcount : (c - 1#16) &&& 0x03ff#16 ≠ 0x0000#16) :
    ticksToExpiry (c - 1#16) + 1 = ticksToExpiry c := by
  have hmany := mt (ticksToExpiry_eq_one_iff c).mp hcount
  rw [ticksToExpiry_eq] at hmany ⊢
  rw [ticksToExpiry_eq]
  bv_omega

/-- `T(c)` in closed form: the low 10 bits of the counter, or 1024 where they are 0 (41 R147). -/
theorem ticksToExpiry_closed (c : Word) :
    ((c &&& 0x03ff#16) ≠ 0x0000#16 → ticksToExpiry c = (c &&& 0x03ff#16).toNat) ∧
    ((c &&& 0x03ff#16) = 0x0000#16 → ticksToExpiry c = 1024) := by
  rw [ticksToExpiry_eq, ne_eq, BitVec.toNat_eq, and_reloadMask_toNat, show (0x0000#16 : Word).toNat = 0 from rfl]
  constructor <;> intro _ <;> bv_omega

/-- The block a tick has consumed its request of and counted down, before the expiry test (41 R144 steps 1 and 2). -/
def tickCounted (s : State) : State := decrement (consumeTick (begin s))

@[simp] theorem tickCounted_vars (s : State) :
    (tickCounted s).vars = { s.vars with tickPending := false, reloadCounter := s.vars.reloadCounter - 1#16 } := rfl
@[simp] theorem tickCounted_out (s : State) : (tickCounted s).out = Output.quiet := rfl

/-- A pending tick that is a timeout: the policy, then the reload (41 R144 steps 3 and 4). -/
theorem exec_tick_timeout (nr se : Bool) {s : State} (hpend : s.vars.tickPending = true)
    (hexpired : (s.vars.reloadCounter - 1#16) &&& 0x03ff#16 = 0x0000#16) :
    exec (.tick nr se) s = .next (reloadAfterTimeout (escalate nr se (tickCounted s))) := by
  rcases countDown_cases nr se (begin s) with ⟨hcount, _⟩ | ⟨_, h⟩
  · exact absurd ((expired_iff _).mpr hexpired) (ne_true_of_eq_false hcount)
  · rw [exec_tick, hpend, if_pos rfl, h, tickCounted]

/-- A tick is stale, counts, or is a timeout. -/
theorem tick_stages {nr se : Bool} {s t : State} (h : exec (.tick nr se) s = .next t) :
    (s.vars.tickPending = false ∧ t = { s with out := ⟨none, [], false, false⟩ }) ∨
    (s.vars.tickPending = true ∧ (s.vars.reloadCounter - 1#16) &&& 0x03ff#16 ≠ 0x0000#16 ∧
      t = { s with vars := { s.vars with reloadCounter := s.vars.reloadCounter - 1#16 }, out := ⟨none, [], true, false⟩ }) ∨
    (s.vars.tickPending = true ∧ (s.vars.reloadCounter - 1#16) &&& 0x03ff#16 = 0x0000#16 ∧
      t = reloadAfterTimeout (escalate nr se (tickCounted s))) := by
  by_cases hpend : s.vars.tickPending = true
  · by_cases hexpired : (s.vars.reloadCounter - 1#16) &&& 0x03ff#16 = 0x0000#16
    · rw [exec_tick_timeout nr se hpend hexpired] at h
      cases h
      exact .inr (.inr ⟨hpend, hexpired, rfl⟩)
    · rw [exec_tick_counting nr se hpend hexpired] at h
      cases h
      exact .inr (.inl ⟨hpend, hexpired, rfl⟩)
  · rw [exec_tick_stale nr se (eq_false_of_ne_true hpend)] at h
    cases h
    exact .inl ⟨eq_false_of_ne_true hpend, rfl⟩

theorem reloadAfterTimeout_events (s : State) : (reloadAfterTimeout s).out.events = s.out.events := by
  unfold reloadAfterTimeout; split <;> rfl

/-- The policy emits exactly one event, whichever of its three branches it takes (42 R161). -/
theorem escalate_emits_one (nr se : Bool) (s : State) : ∃ e : Event, (escalate nr se s).out.events = s.out.events ++ [e] := by
  rcases escalate_cases nr se s with ⟨_, e⟩ | ⟨_, _, e⟩ | ⟨_, _, e⟩ <;> rw [e]
  · exact ⟨_, rfl⟩
  · exact ⟨_, by rw [markSecondTimeout_eq]; rfl⟩
  · exact ⟨.wdtReset, by rw [markSecondTimeout_eq]; rfl⟩

theorem countTimeout_sets_timeout (s : State) : (countTimeout s).vars.status1.getLsbD 3 = true := by
  simp [countTimeout]

theorem markSecondTimeout_keeps_timeout {s : State} (h : s.vars.status1.getLsbD 3 = true) :
    (markSecondTimeout s).vars.status1.getLsbD 3 = true := by
  rw [markSecondTimeout_eq]
  cases hesc : s.params.escSts2 <;> simp [h]

/-- Every timeout leaves the timeout flag set (42 R161). -/
theorem escalate_sets_timeout (nr se : Bool) (s : State) : (escalate nr se s).vars.status1.getLsbD 3 = true := by
  have hcount := countTimeout_sets_timeout s
  rcases escalate_cases nr se s with ⟨_, e⟩ | ⟨_, _, e⟩ | ⟨_, _, e⟩ <;> rw [e]
  · exact hcount
  · exact markSecondTimeout_keeps_timeout hcount
  · exact markSecondTimeout_keeps_timeout hcount

/-- Fewer ticks than `T(c)` only count. -/
theorem run_ticks_counting {flags : List (Bool × Bool)} {s : State} (hpend : s.vars.tickPending = true)
    (hfew : flags.length < ticksToExpiry s.vars.reloadCounter) :
    (runState (flags.map (fun f => Instr.tick f.1 f.2)) s).vars =
        { s.vars with reloadCounter := s.vars.reloadCounter - BitVec.ofNat 16 flags.length } ∧
      runEvents (flags.map (fun f => Instr.tick f.1 f.2)) s = [] := by
  induction flags generalizing s with
  | nil => simp
  | cons f rest ih =>
    rw [List.length_cons] at hfew
    have hcount : (s.vars.reloadCounter - 1#16) &&& 0x03ff#16 ≠ 0x0000#16 := fun hexpired => by
      have hone := (ticksToExpiry_eq_one_iff _).mpr hexpired
      omega
    have htick := exec_tick_counting f.1 f.2 hpend hcount
    have hpred := ticksToExpiry_pred hcount
    obtain ⟨hvars, hevents⟩ := ih (s := { s with
      vars := { s.vars with reloadCounter := s.vars.reloadCounter - 1#16 }, out := ⟨none, [], true, false⟩ })
      hpend (by simp only; omega)
    have hcounter : s.vars.reloadCounter - 1#16 - BitVec.ofNat 16 rest.length =
        s.vars.reloadCounter - BitVec.ofNat 16 (rest.length + 1) := by bv_omega
    rw [List.map_cons, runState_cons htick, runEvents_cons htick, hvars, hevents, List.length_cons, ← hcounter]
    exact ⟨rfl, rfl⟩

/-- Tick number `T(c)` is a timeout: one event, and the timeout flag set. -/
theorem run_ticks_timeout {flags : List (Bool × Bool)} {s : State} (hpend : s.vars.tickPending = true)
    (hall : flags.length = ticksToExpiry s.vars.reloadCounter) :
    (runEvents (flags.map (fun f => Instr.tick f.1 f.2)) s).length = 1 ∧
      (runState (flags.map (fun f => Instr.tick f.1 f.2)) s).vars.status1.getLsbD 3 = true := by
  induction flags generalizing s with
  | nil => exact absurd hall (Nat.succ_ne_zero _).symm
  | cons f rest ih =>
    rw [List.length_cons] at hall
    rw [List.map_cons]
    by_cases hexpired : (s.vars.reloadCounter - 1#16) &&& 0x03ff#16 = 0x0000#16
    · have hlast : rest = [] := by
        have hone := (ticksToExpiry_eq_one_iff _).mpr hexpired
        exact List.eq_nil_of_length_eq_zero (by omega)
      have htick := exec_tick_timeout f.1 f.2 hpend hexpired
      obtain ⟨e, he⟩ := escalate_emits_one f.1 f.2 (tickCounted s)
      rw [hlast, List.map_nil, runEvents_cons htick, runState_cons htick, runEvents_nil, runState_nil,
        reloadAfterTimeout_events, he, reloadAfterTimeout_status1]
      exact ⟨rfl, escalate_sets_timeout _ _ _⟩
    · have htick := exec_tick_counting f.1 f.2 hpend hexpired
      have hpred := ticksToExpiry_pred hexpired
      rw [runEvents_cons htick, runState_cons htick]
      exact ih hpend (by simp only; omega)

/-- Settles O46: the ticks before the last count, the last is a timeout, and `T(c)` has its closed form. -/
theorem timeoutComesAtTicksToExpiry : Obligations.TimeoutComesAtTicksToExpiry :=
  ⟨fun _ _ hpend => ⟨run_ticks_counting hpend, run_ticks_timeout hpend⟩, ticksToExpiry_closed⟩

/-! ## The outside flags (10_state R36, 41 R144 (d), 42 R160) -/

/-- At any count but 1 the policy counts the timeout and interrupts, whatever `no_reboot`. -/
theorem escalate_first (nr se : Bool) {s : State} (hn : s.vars.n ≠ 1#2) :
    escalate nr se s = emit (if se then .smi else .nmi) (countTimeout s) := by
  rcases escalate_cases nr se s with ⟨_, e⟩ | ⟨hone, _⟩ | ⟨hone, _⟩
  · exact e
  · exact absurd hone hn
  · exact absurd hone hn

/-- At a second consecutive timeout without `no_reboot` the policy asks for the reset, whatever `smi_en`. -/
theorem escalate_reset (se : Bool) {s : State} (hn : s.vars.n = 1#2) :
    escalate false se s = requestReset (markSecondTimeout (countTimeout s)) := by
  rcases escalate_cases false se s with ⟨hne, _⟩ | ⟨_, hnr, _⟩ | ⟨_, _, e⟩
  · exact absurd hn hne
  · exact Bool.noConfusion hnr
  · exact e

/-- A tick that is no timeout reads neither flag. -/
theorem exec_tick_flags_unread (nr nr' se se' : Bool) {s : State}
    (h : s.vars.tickPending = false ∨ (s.vars.reloadCounter - 1#16) &&& 0x03ff#16 ≠ 0x0000#16) :
    exec (.tick nr se) s = exec (.tick nr' se') s := by
  by_cases hpend : s.vars.tickPending = true
  · have hcount := h.resolve_left (ne_false_of_eq_true hpend)
    rw [exec_tick_counting nr se hpend hcount, exec_tick_counting nr' se' hpend hcount]
  · have hidle := eq_false_of_ne_true hpend
    rw [exec_tick_stale nr se hidle, exec_tick_stale nr' se' hidle]

/-- A tick reads of the flags only what the policy reads of them. -/
theorem exec_tick_flags_by_escalate {nr nr' se se' : Bool} {s : State}
    (h : escalate nr se (tickCounted s) = escalate nr' se' (tickCounted s)) :
    exec (.tick nr se) s = exec (.tick nr' se') s := by
  by_cases htimeout : s.vars.tickPending = true ∧ (s.vars.reloadCounter - 1#16) &&& 0x03ff#16 = 0x0000#16
  · obtain ⟨hpend, hexpired⟩ := htimeout
    rw [exec_tick_timeout nr se hpend hexpired, exec_tick_timeout nr' se' hpend hexpired, h]
  · rw [not_and_or, Bool.not_eq_true] at htimeout
    exact exec_tick_flags_unread nr nr' se se' htimeout

/-- Settles O29: no timeout, a first one, or the reset path of a second one. -/
theorem outsideFlagsMatterOnlyWhereRead : Obligations.OutsideFlagsMatterOnlyWhereRead := by
  refine fun nr nr' se se' s => ⟨exec_tick_flags_unread nr nr' se se', fun hn => ?_, fun hn => ?_⟩
  · have hfirst : (tickCounted s).vars.n ≠ 1#2 := hn
    exact exec_tick_flags_by_escalate ((escalate_first nr se hfirst).trans (escalate_first nr' se hfirst).symm)
  · have hsecond : (tickCounted s).vars.n = 1#2 := hn
    exact exec_tick_flags_by_escalate ((escalate_reset se hsecond).trans (escalate_reset se' hsecond).symm)

/-! ## The tick request (41 R141, R142, R150; 70 R210) -/

/-- A kick adds a request exactly if the block is armable and not latched, and withdraws none. -/
theorem tickPending_after_wrRld {v : Word} {s t : State} (h : exec (.wrRld v) s = .next t) :
    t.vars.tickPending = (s.vars.tickPending || (armable t.vars && !s.vars.resetLatched)) := by
  rw [armable_after_wrRld h]
  rcases wrRld_cases h with ⟨harm, rfl⟩ | ⟨harm, rfl⟩ <;> rw [harm] <;> simp [arm_vars]

/-- A Control1 write does the same where it leaves the block armable, and else leaves no request. -/
theorem tickPending_after_wrCnt1 {v : Word} {s t : State} (h : exec (.wrCnt1 v) s = .next t) :
    t.vars.tickPending = (armable t.vars && (s.vars.tickPending || !s.vars.resetLatched)) := by
  rw [armable_after_wrCnt1 h]
  rcases wrCnt1_cases h with ⟨harm, rfl⟩ | ⟨harm, rfl⟩ <;> rw [harm] <;> simp [arm_vars, disarm_eq, control1Written_vars]

/-- Whether a request stands is changed by `INIT`, by a tick that consumes one, and by the two writes that arm. -/
theorem tickPending_changed {i : Instr} {s t : State} (h : exec i s = .next t)
    (hne : t.vars.tickPending ≠ s.vars.tickPending) :
    i = .init ∨ (∃ nr se : Bool, i = .tick nr se ∧ s.vars.tickPending = true) ∨ ∃ v : Word, i = .wrRld v ∨ i = .wrCnt1 v := by
  by_cases hinit : i = .init
  · exact .inl hinit
  · obtain ⟨-, -, -, -, -, -, -, -, -, -, -, -, -, hrow, -⟩ := writeMatrixHolds i s t h hinit
    refine .inr ((hrow hne).imp_left fun htick => ?_)
    cases i with
    | tick nr se =>
      rcases tick_cases h with ⟨_, rfl⟩ | ⟨hpend, _⟩
      · exact absurd rfl hne
      · exact ⟨nr, se, rfl, hpend⟩
    | _ => exact Bool.noConfusion htick

/-- A request is set only by a write that leaves the block armable and finds it not latched. -/
theorem arming_of_tickPending_set {i : Instr} {s t : State} (h : exec i s = .next t) (hidle : s.vars.tickPending = false)
    (hpend : t.vars.tickPending = true) :
    (∃ v : Word, i = .wrRld v ∨ i = .wrCnt1 v) ∧ armable t.vars = true ∧ s.vars.resetLatched = false := by
  rcases tickPending_changed h (by simp [hidle, hpend]) with rfl | ⟨_, _, _, hstanding⟩ | ⟨v, rfl | rfl⟩
  · cases h
    exact Bool.noConfusion hpend
  · exact absurd hstanding (by simp [hidle])
  · refine ⟨⟨v, .inl rfl⟩, ?_⟩
    simpa [tickPending_after_wrRld h, hidle] using hpend
  · refine ⟨⟨v, .inr rfl⟩, ?_⟩
    simpa [tickPending_after_wrCnt1 h, hidle] using hpend

/-- A pending tick of a block that is not latched keeps the countdown running unless it emits `WDT_RESET` (41 R144, 42 R164). -/
theorem tick_keeps_request_or_resets {nr se : Bool} {s t : State} (h : exec (.tick nr se) s = .next t)
    (hpend : s.vars.tickPending = true) (hlatch : s.vars.resetLatched = false) :
    t.vars.tickPending = true ∨ t.out.events = [.wdtReset] := by
  rcases tick_stages h with ⟨hidle, _⟩ | ⟨_, _, rfl⟩ | ⟨_, _, rfl⟩
  · exact absurd hpend (ne_true_of_eq_false hidle)
  · exact .inl hpend
  · rcases escalate_cases nr se (tickCounted s) with ⟨_, e⟩ | ⟨_, _, e⟩ | ⟨_, _, e⟩ <;> rw [e]
    · rw [reloadAfterTimeout_unlatched]
      · exact .inl rfl
      · exact hlatch
    · rw [reloadAfterTimeout_unlatched]
      · exact .inl rfl
      · rw [markSecondTimeout_eq]
        exact hlatch
    · rw [reloadAfterTimeout_events, markSecondTimeout_eq]
      exact .inr rfl

/-- Settles O32: what sets the request, and each operation that can withdraw it. -/
theorem countdownStartsAndStopsOnlyByRule : Obligations.CountdownStartsAndStopsOnlyByRule := by
  intro i s t hsound h
  constructor
  · intro hidle hpend
    obtain ⟨hwrite, harm, hlatch⟩ := arming_of_tickPending_set h hidle hpend
    obtain ⟨hhalt, htimer⟩ := (armable_iff _).mp harm
    exact ⟨hwrite, hhalt, htimer, hlatch⟩
  · intro hpend hidle
    have hlatch : s.vars.resetLatched = false :=
      eq_false_of_ne_true fun c => Bool.false_ne_true ((hsound.latched_idle c).symm.trans hpend)
    rcases tickPending_changed h (by simp [hidle, hpend]) with rfl | ⟨nr, se, rfl, _⟩ | ⟨v, rfl | rfl⟩
    · exact .inr (.inr rfl)
    · have hreset := (tick_keeps_request_or_resets h hpend hlatch).resolve_left (ne_true_of_eq_false hidle)
      exact .inr (.inl ⟨nr, se, rfl, hreset⟩)
    · exact absurd hidle (by simp [tickPending_after_wrRld h, hpend])
    · have hdead : armable t.vars ≠ true := by simpa [tickPending_after_wrCnt1 h, hpend] using hidle
      exact .inl ⟨v, rfl, (not_armable_iff _).mp hdead⟩

/-! ## The timed refinement (41 R148) -/

/-- The block, the clock and the deadline after an operation that left the block in `t`. -/
def afterOp (interval : Nat) (ts : TimedState) (t : State) : TimedState :=
  { block := t, now := ts.now, deadline := nextDeadline interval ts.now ts.deadline t }

theorem timedStep_wait (interval : Nat) {d : Nat} {ts : TimedState} (h : mayWait d ts = true) :
    timedStep interval (.wait d) ts = some { ts with now := ts.now + d } := by
  simp [timedStep, h]

theorem timedStep_op (interval : Nat) {i : Instr} {ts : TimedState} {t : State} (h : mayPerform i ts = true)
    (hexec : exec i ts.block = .next t) : timedStep interval (.op i) ts = some (afterOp interval ts t) := by
  simp [timedStep, h, hexec, afterOp]

/-- A timed action that happens is an operation performed or time passing, and was free to happen. -/
theorem timedStep_cases {interval : Nat} {a : TimedAction} {ts us : TimedState} (h : timedStep interval a ts = some us) :
    (∃ (i : Instr) (t : State), a = .op i ∧ exec i ts.block = .next t ∧ us = afterOp interval ts t) ∨
    (∃ d : Nat, a = .wait d ∧ mayWait d ts = true ∧ us = { ts with now := ts.now + d }) := by
  cases a with
  | op i =>
    obtain ⟨t, hexec, _⟩ := exec_answers i ts.block
    cases hmay : mayPerform i ts
    · simp [timedStep, hmay] at h
    · rw [timedStep_op interval hmay hexec] at h
      cases h
      exact .inl ⟨i, t, rfl, hexec, rfl⟩
  | wait d =>
    cases hmay : mayWait d ts
    · simp [timedStep, hmay] at h
    · rw [timedStep_wait interval hmay] at h
      cases h
      exact .inr ⟨d, rfl, hmay, rfl⟩

theorem timedRun_cons {interval : Nat} {a : TimedAction} {ts us : TimedState} (h : timedStep interval a ts = some us)
    (rest : List TimedAction) : timedRun interval (a :: rest) ts = timedRun interval rest us := by
  simp [timedRun, h]

theorem timedRun_cons_some {interval : Nat} {a : TimedAction} {rest : List TimedAction} {ts us : TimedState}
    (h : timedRun interval (a :: rest) ts = some us) :
    ∃ vs : TimedState, timedStep interval a ts = some vs ∧ timedRun interval rest vs = some us := by
  cases hstep : timedStep interval a ts with
  | none => simp [timedRun, hstep] at h
  | some vs => exact ⟨vs, rfl, (timedRun_cons hstep rest).symm.trans h⟩

/-- Settles O51, by induction on the actions: an operation is one of the untimed run, a wait touches the clock only. -/
theorem timedRunsAreUntimedRuns : Obligations.TimedRunsAreUntimedRuns := by
  intro interval actions ts us h
  induction actions generalizing ts with
  | nil =>
    cases h
    exact ⟨rfl, rfl⟩
  | cons a rest ih =>
    obtain ⟨vs, hstep, hrest⟩ := timedRun_cons_some h
    obtain ⟨hblock, hnow⟩ := ih vs hrest
    rcases timedStep_cases hstep with ⟨i, t, rfl, hexec, rfl⟩ | ⟨d, rfl, _, rfl⟩
    · exact ⟨hblock.trans (runState_cons hexec (opsOf rest)).symm, hnow⟩
    · exact ⟨hblock, hnow.trans (Nat.add_assoc _ _ _)⟩

theorem escalate_tickReq (nr se : Bool) (s : State) : (escalate nr se s).out.tickReq = s.out.tickReq := by
  rcases escalate_cases nr se s with ⟨_, e⟩ | ⟨_, _, e⟩ | ⟨_, _, e⟩ <;> rw [e]
  · rfl
  · rw [markSecondTimeout_eq]; rfl
  · rw [markSecondTimeout_eq]; rfl

theorem escalate_sets_no_request (nr se : Bool) {s : State} (h : s.vars.tickPending = false) :
    (escalate nr se s).vars.tickPending = false := by
  rcases escalate_cases nr se s with ⟨_, e⟩ | ⟨_, _, e⟩ | ⟨_, _, e⟩ <;> rw [e]
  · exact h
  · rw [markSecondTimeout_eq]; exact h
  · rfl

/-- A tick consumes the request it found, so a request stands after it exactly if the tick renewed it. -/
theorem tick_tickReq {nr se : Bool} {s t : State} (h : exec (.tick nr se) s = .next t) :
    t.out.tickReq = t.vars.tickPending := by
  rcases tick_stages h with ⟨hidle, rfl⟩ | ⟨hpend, _, rfl⟩ | ⟨_, _, rfl⟩
  · exact hidle.symm
  · exact hpend.symm
  · cases hlatch : (escalate nr se (tickCounted s)).vars.resetLatched
    · rw [reloadAfterTimeout_unlatched _ hlatch]
      rfl
    · rw [reloadAfterTimeout_latched _ hlatch, escalate_tickReq, escalate_sets_no_request nr se (s := tickCounted s) rfl]
      rfl

/-- An operation that asks for a tick leaves one pending. -/
theorem tickPending_of_tickReq {i : Instr} {s t : State} (h : exec i s = .next t) (hreq : t.out.tickReq = true) :
    t.vars.tickPending = true := by
  by_cases hwrite : ∃ v, i = .wrRld v ∨ i = .wrCnt1 v
  · obtain ⟨v, hi⟩ := hwrite
    rw [tickReq_of_arming hi h, Bool.and_eq_true] at hreq
    obtain ⟨harm, hlatch⟩ := hreq
    rcases hi with rfl | rfl
    · simp [tickPending_after_wrRld h, harm, hlatch]
    · simp [tickPending_after_wrCnt1 h, harm, hlatch]
  · cases htick : i.isTick with
    | true =>
      cases i with
      | tick nr se => exact (tick_tickReq h).symm.trans hreq
      | _ => exact Bool.noConfusion htick
    | false =>
      have hquiet := tickReq_of_not_arming htick (fun v => not_or.mp fun hi => hwrite ⟨v, hi⟩) h
      exact Bool.noConfusion (hquiet.symm.trans hreq)

/-- A tick pending after an operation that asked for none was pending before it. -/
theorem tickPending_kept {i : Instr} {s t : State} (h : exec i s = .next t) (hreq : t.out.tickReq = false)
    (hpend : t.vars.tickPending = true) : s.vars.tickPending = true := by
  by_contra hidle
  obtain ⟨⟨v, hi⟩, harm, hlatch⟩ := arming_of_tickPending_set h (eq_false_of_ne_true hidle) hpend
  simp [tickReq_of_arming hi h, harm, hlatch] at hreq

/-- The deadline stands in place of the bit, and is not in the past. -/
structure DeadlineStands (ts : TimedState) : Prop where
  isSome_eq : ts.deadline.isSome = ts.block.vars.tickPending
  not_past : ∀ d ∈ ts.deadline, ts.now ≤ d

/-- An operation renews the deadline with the request, drops it with the request, or keeps both. -/
theorem deadlineStands_afterOp {interval : Nat} {i : Instr} {ts : TimedState} {t : State} (h : DeadlineStands ts)
    (hexec : exec i ts.block = .next t) : DeadlineStands (afterOp interval ts t) := by
  cases hreq : t.out.tickReq
  · cases hpend : t.vars.tickPending
    · have hnext : nextDeadline interval ts.now ts.deadline t = none := by simp [nextDeadline, hreq, hpend]
      exact ⟨by simp [afterOp, hnext, hpend], by simp [afterOp, hnext]⟩
    · have hnext : nextDeadline interval ts.now ts.deadline t = ts.deadline := by simp [nextDeadline, hreq, hpend]
      have hbefore := h.isSome_eq.trans (tickPending_kept hexec hreq hpend)
      exact ⟨by simp [afterOp, hnext, hpend, hbefore], by simpa [afterOp, hnext] using h.not_past⟩
  · have hnext : nextDeadline interval ts.now ts.deadline t = some (ts.now + interval) := by simp [nextDeadline, hreq]
    exact ⟨by simp [afterOp, hnext, tickPending_of_tickReq hexec hreq], by simp [afterOp, hnext]⟩

theorem mayWait_iff (d : Nat) (ts : TimedState) : mayWait d ts = true ↔ ∀ due ∈ ts.deadline, ts.now + d ≤ due := by
  unfold mayWait
  cases ts.deadline <;> simp

/-- Settles O52: an operation moves the deadline with the bit, and time stops at a standing deadline. -/
theorem deadlineStandsForPendingTick : Obligations.DeadlineStandsForPendingTick := by
  intro interval a ts us hbit hpast hstep
  rcases timedStep_cases hstep with ⟨i, t, rfl, hexec, rfl⟩ | ⟨d, rfl, hmay, rfl⟩
  · obtain ⟨hbit', hpast'⟩ := deadlineStands_afterOp (interval := interval) ⟨hbit, hpast⟩ hexec
    exact ⟨hbit', hpast'⟩
  · exact ⟨hbit, (mayWait_iff d ts).mp hmay⟩

/-- A kick of a running block and a wait shorter than the interval: the deadline is one interval after the kick, whatever it was. -/
theorem timedRun_kick_wait {interval w : Nat} {ts : TimedState} (hw : w < interval) (harm : armable ts.block.vars = true)
    (hlatch : ts.block.vars.resetLatched = false) (rest : List TimedAction) :
    ∃ t : State, armable t.vars = true ∧ t.vars.resetLatched = false ∧
      timedRun interval (.op kick :: .wait w :: rest) ts =
        timedRun interval rest { block := t, now := ts.now + w, deadline := some (ts.now + interval) } := by
  have hkick : exec kick ts.block = .next _ := exec_wrRld_armed 0x0001#16 harm hlatch
  refine ⟨_, (armable_after_wrRld hkick).trans harm, hlatch, ?_⟩
  rw [timedRun_cons (timedStep_op interval rfl hkick), timedRun_cons (timedStep_wait interval ?_)]
  · rfl
  · refine (mayWait_iff w _).mpr fun due hdue => ?_
    cases hdue
    exact Nat.add_le_add_left hw.le _

/-- Kicks less than an interval apart: the run goes on, and the last kick alone sets the deadline. -/
theorem timedRun_kicks {interval d : Nat} (hd : d < interval) {waits : List Nat} (hwaits : ∀ w ∈ waits, w < interval)
    {ts : TimedState} (harm : armable ts.block.vars = true) (hlatch : ts.block.vars.resetLatched = false) :
    ∃ t : State, timedRun interval ((waits ++ [d]).flatMap (fun w => [.op kick, .wait w])) ts =
      some { block := t, now := ts.now + waits.sum + d, deadline := some (ts.now + waits.sum + interval) } := by
  induction waits generalizing ts with
  | nil =>
    obtain ⟨t, _, _, hrun⟩ := timedRun_kick_wait hd harm hlatch []
    exact ⟨t, hrun⟩
  | cons w rest ih =>
    obtain ⟨t, harm', hlatch', hrun⟩ := timedRun_kick_wait (hwaits w List.mem_cons_self) harm hlatch
      ((rest ++ [d]).flatMap (fun w => [.op kick, .wait w]))
    obtain ⟨u, hlater⟩ := ih (fun w' hw' => hwaits w' (List.mem_cons_of_mem w hw'))
      (ts := { block := t, now := ts.now + w, deadline := some (ts.now + interval) }) harm' hlatch'
    refine ⟨u, hrun.trans (hlater.trans ?_)⟩
    rw [List.sum_cons, Nat.add_assoc ts.now w]

/-- Settles O53: after the last kick the deadline is still ahead, and a tick is due at its deadline only. -/
theorem timedKickRestartsInterval : Obligations.TimedKickRestartsInterval := by
  intro interval ts waits d hlatch hhalt htimer hwaits hd
  obtain ⟨t, hrun⟩ := timedRun_kicks hd hwaits ((armable_iff _).mpr ⟨hhalt, htimer⟩) hlatch
  refine ⟨_, hrun, rfl, rfl, fun nr se => ?_⟩
  have hahead : ts.now + waits.sum + interval ≠ ts.now + waits.sum + d := by omega
  simpa [mayPerform, Instr.isTick] using hahead

end Sys2Proof.Machine

/-! PROOFS (spec chapter 42, the escalation policy). What each timeout emits and makes of `n`, the two outcomes of a second one, the latched
block, and the two periods of a silent guest. -/

namespace Sys2Proof.Machine

/-! ## One timeout (42 R161) -/

/-- The event of a timeout, by `n` as the timeout finds it and the outside flags, in the policy's order (42 R161). -/
def timeoutEvent (n : BitVec 2) (nr se : Bool) : Event :=
  if n = 1#2 ∧ nr = false then .wdtReset else if se then .smi else .nmi

@[simp] theorem timeoutEvent_no_reboot (n : BitVec 2) (se : Bool) : timeoutEvent n true se = if se then .smi else .nmi := by
  simp [timeoutEvent]

@[simp] theorem timeoutEvent_first (nr se : Bool) : timeoutEvent 0#2 nr se = if se then .smi else .nmi := by
  simp [timeoutEvent]

@[simp] theorem timeoutEvent_reset (se : Bool) : timeoutEvent 1#2 false se = .wdtReset := by
  simp [timeoutEvent]

theorem markSecondTimeout_events (s : State) : (markSecondTimeout s).out.events = s.out.events := by
  rw [markSecondTimeout_eq]; rfl

/-- The policy emits the event of its timeout, in each of its three branches. -/
theorem escalate_events (nr se : Bool) (s : State) :
    (escalate nr se s).out.events = s.out.events ++ [timeoutEvent s.vars.n nr se] := by
  rcases escalate_cases nr se s with ⟨hn, e⟩ | ⟨_, rfl, e⟩ | ⟨hn, rfl, e⟩ <;> rw [e]
  · simp [timeoutEvent, hn, countTimeout]
  · rw [timeoutEvent_no_reboot, emit_out, markSecondTimeout_events]; rfl
  · rw [hn, timeoutEvent_reset, requestReset_out, markSecondTimeout_events]; rfl

/-- The policy counts the timeout, and a count of 2 starts again at 0 (42 R167). -/
theorem escalate_n (nr se : Bool) (s : State) :
    (escalate nr se s).vars.n = if s.vars.n + 1#2 = 2#2 then 0#2 else s.vars.n + 1#2 := by
  have hlimit : s.vars.n + 1#2 = 2#2 ↔ s.vars.n = 1#2 := by bv_omega
  rcases escalate_cases nr se s with ⟨hn, e⟩ | ⟨hn, _, e⟩ | ⟨hn, _, e⟩ <;> rw [e]
  · rw [if_neg (mt hlimit.mp hn)]; rfl
  · rw [if_pos (hlimit.mpr hn)]; rfl
  · rw [if_pos (hlimit.mpr hn)]; rfl

theorem reloadAfterTimeout_n (s : State) : (reloadAfterTimeout s).vars.n = s.vars.n := by
  unfold reloadAfterTimeout; split <;> rfl

/-- Settles O27: `exec_tick_first_timeout`, proved with the race of a kick and a tick. -/
theorem firstTimeoutInterrupts : Obligations.FirstTimeoutInterrupts := fun nr se _ => exec_tick_first_timeout nr se

/-! ## A second consecutive timeout (42 R163 to R165) -/

/-- With `no_reboot` a second consecutive timeout interrupts in place of the reset. -/
theorem escalate_no_reboot (se : Bool) {s : State} (hn : s.vars.n = 1#2) :
    escalate true se s = emit (if se then .smi else .nmi) (markSecondTimeout (countTimeout s)) := by
  rcases escalate_cases true se s with ⟨hne, _⟩ | ⟨_, _, e⟩ | ⟨_, hnr, _⟩
  · exact absurd hn hne
  · exact e
  · exact Bool.noConfusion hnr

/-- Status1 after a second timeout: the timeout flag, and by default the pair beside it (92 D13). -/
def secondTimeoutStatus1 (s : State) : Word :=
  if s.params.escSts2 then s.vars.status1 ||| 0x0008#16 else s.vars.status1 ||| 0x000e#16

/-- Status2 after a second timeout: the pair, with `P_ESC_STS2` (92 D13). -/
def secondTimeoutStatus2 (s : State) : Word :=
  if s.params.escSts2 then s.vars.status2 ||| 0x0006#16 else s.vars.status2

/-- The status part of a second timeout, the same with and without the reset. -/
theorem markSecondTimeout_countTimeout_eq (s : State) :
    markSecondTimeout (countTimeout s) =
      setVars { s.vars with status1 := secondTimeoutStatus1 s, status2 := secondTimeoutStatus2 s, n := 0#2 } s := by
  have hpair : s.vars.status1 ||| 0x0008#16 ||| 0x0006#16 = s.vars.status1 ||| 0x000e#16 := BitVec.or_assoc _ _ _
  rw [markSecondTimeout_eq]
  cases hesc : s.params.escSts2 <;> simp [secondTimeoutStatus1, secondTimeoutStatus2, countTimeout, setVars, hesc, hpair]

section SecondTimeout

variable {s : State} (hpend : s.vars.tickPending = true) (hn : s.vars.n = 1#2)
  (hexpired : (s.vars.reloadCounter - 1#16) &&& 0x03ff#16 = 0x0000#16)

include hpend hn hexpired

/-- The reset latches, so nothing is reloaded and nothing asked for. -/
theorem exec_tick_second_timeout_reset (se : Bool) :
    exec (.tick false se) s =
      .next { s with
        vars := { s.vars with reloadCounter := s.vars.reloadCounter - 1#16, status1 := secondTimeoutStatus1 s,
                              status2 := secondTimeoutStatus2 s, n := 0#2, tickPending := false, resetLatched := true },
        out := ⟨none, [.wdtReset], false, false⟩ } := by
  have hcount : (tickCounted s).vars.n = 1#2 := hn
  rw [exec_tick_timeout false se hpend hexpired, escalate_reset se hcount, reloadAfterTimeout_latched _ rfl,
    markSecondTimeout_countTimeout_eq]
  rfl

/-- The interrupt of a suppressed reset, and the countdown on from `timer_value`. -/
theorem exec_tick_second_timeout_no_reboot (hlatch : s.vars.resetLatched = false) (se : Bool) :
    exec (.tick true se) s =
      .next { s with
        vars := { s.vars with reloadCounter := s.vars.timerValue, status1 := secondTimeoutStatus1 s,
                              status2 := secondTimeoutStatus2 s, n := 0#2 },
        out := ⟨none, [if se then .smi else .nmi], true, false⟩ } := by
  have hcount : (tickCounted s).vars.n = 1#2 := hn
  rw [exec_tick_timeout true se hpend hexpired, escalate_no_reboot se hcount, markSecondTimeout_countTimeout_eq,
    reloadAfterTimeout_unlatched]
  · simp only [hpend]
    rfl
  · exact hlatch

end SecondTimeout

/-- Settles O28: the two outcomes, by `no_reboot`. -/
theorem secondTimeoutResetsOrInterrupts : Obligations.SecondTimeoutResetsOrInterrupts := by
  rintro se s st1 st2 hpend hlatch hn hexpired (rfl : st1 = secondTimeoutStatus1 s) (rfl : st2 = secondTimeoutStatus2 s)
  exact ⟨exec_tick_second_timeout_reset hpend hn hexpired se, exec_tick_second_timeout_no_reboot hpend hn hexpired hlatch se⟩

/-! ## The events of every operation (60 R187) -/

theorem wrRld_events {v : Word} {s t : State} (h : exec (.wrRld v) s = .next t) : t.out.events = [] := by
  rcases wrRld_cases h with ⟨_, rfl⟩ | ⟨_, rfl⟩
  · rw [arm_eq]; rfl
  · rfl

theorem wrCnt1_events {v : Word} {s t : State} (h : exec (.wrCnt1 v) s = .next t) : t.out.events = [] := by
  rcases wrCnt1_cases h with ⟨_, rfl⟩ | ⟨_, rfl⟩
  · rw [arm_eq]; rfl
  · rfl

/-- A tick emits the event of its timeout, or nothing if it is none. -/
theorem tick_events {nr se : Bool} {s t : State} (h : exec (.tick nr se) s = .next t) :
    t.out.events =
      if s.vars.tickPending = true ∧ (s.vars.reloadCounter - 1#16) &&& 0x03ff#16 = 0x0000#16 then
        [timeoutEvent s.vars.n nr se]
      else [] := by
  rcases tick_stages h with ⟨hidle, rfl⟩ | ⟨_, hcount, rfl⟩ | ⟨hpend, hexpired, rfl⟩
  · simp [hidle]
  · rw [if_neg fun ⟨_, hexpired⟩ => hcount hexpired]
  · rw [if_pos ⟨hpend, hexpired⟩, reloadAfterTimeout_events, escalate_events]; rfl

/-- Settles O30, operation by operation: `WR_DIN` and a timeout emit one event each, everything else none. -/
theorem eventsAreExactlyTheseAndAtMostOne : Obligations.EventsAreExactlyTheseAndAtMostOne := by
  intro i s t h
  cases i with
  | rdRld | rdDin | rdDout | rdSts1 | rdSts2 | rdCnt1 | rdCnt2 | rdMsg1 | rdMsg2 | rdWdcnt | rdSwirq | rdTmr | rdUnmapped off
  | wrDout v | wrSts1 v | wrSts2 v | wrCnt2 v | wrMsg1 v | wrMsg2 v | wrWdcnt v | wrSwirq v | wrTmr v | wrUnmapped off v
  | init =>
    cases h
    exact ⟨Nat.zero_le 1, rfl⟩
  | wrDin v =>
    cases h
    exact ⟨Nat.le_refl 1, rfl⟩
  | wrRld v =>
    rw [wrRld_events h]
    exact ⟨Nat.zero_le 1, rfl⟩
  | wrCnt1 v =>
    rw [wrCnt1_events h]
    exact ⟨Nat.zero_le 1, rfl⟩
  | tick nr se =>
    rw [tick_events h]
    split
    · exact ⟨Nat.le_refl 1, by simp only [timeoutEvent, apply_ite (fun e : Event => [e])]⟩
    · exact ⟨Nat.zero_le 1, rfl⟩

/-! ## The timeout counter after every operation (42 R167) -/

theorem wrRld_n {v : Word} {s t : State} (h : exec (.wrRld v) s = .next t) : t.vars.n = 0#2 := by
  rcases wrRld_cases h with ⟨_, rfl⟩ | ⟨_, rfl⟩
  · rw [arm_vars]; rfl
  · rfl

/-- A Control1 write that arms keeps `n`, one that disarms clears it (92 D12). -/
theorem wrCnt1_n {v : Word} {s t : State} (h : exec (.wrCnt1 v) s = .next t) :
    t.vars.n = if armable t.vars = true then s.vars.n else 0#2 := by
  rw [armable_after_wrCnt1 h]
  rcases wrCnt1_cases h with ⟨harm, rfl⟩ | ⟨harm, rfl⟩ <;> rw [harm]
  · rw [arm_vars]; rfl
  · rfl

/-- A tick that is no timeout leaves `n` alone. -/
theorem tick_n {nr se : Bool} {s t : State} (h : exec (.tick nr se) s = .next t) :
    t.vars.n =
      if s.vars.tickPending = true ∧ (s.vars.reloadCounter - 1#16) &&& 0x03ff#16 = 0x0000#16 then
        if s.vars.n + 1#2 = 2#2 then 0#2 else s.vars.n + 1#2
      else s.vars.n := by
  rcases tick_stages h with ⟨hidle, rfl⟩ | ⟨_, hcount, rfl⟩ | ⟨hpend, hexpired, rfl⟩
  · simp [hidle]
  · rw [if_neg fun ⟨_, hexpired⟩ => hcount hexpired]
  · rw [if_pos ⟨hpend, hexpired⟩, reloadAfterTimeout_n, escalate_n]; rfl

/-- Settles O31, operation by operation. -/
theorem timeoutCounterIsSetOnlyByRule : Obligations.TimeoutCounterIsSetOnlyByRule := by
  intro i s t h
  cases i with
  | rdRld | rdDin | rdDout | rdSts1 | rdSts2 | rdCnt1 | rdCnt2 | rdMsg1 | rdMsg2 | rdWdcnt | rdSwirq | rdTmr | rdUnmapped off
  | wrDin v | wrDout v | wrSts1 v | wrSts2 v | wrCnt2 v | wrMsg1 v | wrMsg2 v | wrWdcnt v | wrSwirq v | wrTmr v
  | wrUnmapped off v | init =>
    cases h
    rfl
  | wrRld v => exact wrRld_n h
  | wrCnt1 v => simpa only [armable_iff] using wrCnt1_n h
  | tick nr se => exact tick_n h

/-! ## The latched block (42 R164, 92 D9) -/

/-- Settles O43: latched and sound is kept by everything but `INIT`, and by V2 and V9 such a block is idle with `n` = 0. -/
theorem latchedBlockStaysDeadUntilInit : Obligations.LatchedBlockStaysDeadUntilInit := by
  rintro ops s u hsound hlatch hnoInit rfl
  obtain ⟨hsound', hlatch'⟩ : Sound (runState ops s) ∧ (runState ops s).vars.resetLatched = true :=
    runState_keeps (P := fun t => Sound t ∧ t.vars.resetLatched = true)
      (fun i hi _ _ ⟨hs, hl⟩ hexec => ⟨sound_exec hs hexec, exec_keeps_latch hexec (ne_init_of_noInit hnoInit hi) hl⟩)
      ⟨hsound, hlatch⟩
  have hidle := hsound'.latched_idle hlatch'
  have hn := hsound'.latched_n_zero hlatch'
  refine ⟨hlatch', hidle, hn, fun nr se => exec_tick_stale nr se hidle, fun harm v => ?_, fun v => ⟨_, rfl, rfl⟩⟩
  simp [exec_wrRld_armable v harm, hlatch', hidle, hn]

/-! ## Two strikes (42 R168): no reset before the second full period -/

theorem ne_of_keepsTimer {ops : List Instr} {i : Instr} (h : keepsTimer ops = true) (hi : i ∈ ops) :
    (∀ v, i ≠ .wrTmr v) ∧ i ≠ .init := by
  have hkeeps := List.all_eq_true.mp h i hi
  constructor
  · rintro v rfl
    exact Bool.noConfusion hkeeps
  · rintro rfl
    exact Bool.noConfusion hkeeps

/-- How many ticks a running countdown is from its second timeout: one more period until the first is counted. -/
def ticksToSecondTimeout (v : Vars) : Nat := v.reloadCounter.toNat + if v.n = 1#2 then 0 else v.timerValue.toNat

/-- Fewer than `b` more ticks bring no second timeout, whatever else is done that leaves `timer_value` alone: a running countdown is at
least `b` ticks from it, and a stopped one counts two whole periods once it is started. -/
structure ResetAhead (b : Nat) (s : State) : Prop extends Sound s where
  timer_min : 2 ≤ s.vars.timerValue.toNat
  timer_max : s.vars.timerValue.toNat ≤ 0x03ff
  two_periods : b ≤ 2 * s.vars.timerValue.toNat
  stopped_n_zero : s.vars.tickPending = false → s.vars.n = 0#2
  counter_min : s.vars.tickPending = true → 1 ≤ s.vars.reloadCounter.toNat
  counter_max : s.vars.tickPending = true → s.vars.reloadCounter.toNat ≤ s.vars.timerValue.toNat
  running : s.vars.tickPending = true → b ≤ ticksToSecondTimeout s.vars

/-- The counter of a block that is at its last tick. -/
theorem ResetAhead.counter_of_expired {b : Nat} {s : State} (h : ResetAhead b s) (hpend : s.vars.tickPending = true)
    (hexpired : (s.vars.reloadCounter - 1#16) &&& 0x03ff#16 = 0x0000#16) : s.vars.reloadCounter.toNat = 1 := by
  have hmin := h.counter_min hpend
  have hmax := (h.counter_max hpend).trans h.timer_max
  by_contra hne
  exact not_expired_of_loaded (by omega) hmax hexpired

/-- Only a tick that is a second timeout emits `WDT_RESET`. -/
theorem second_timeout_of_wdtReset {i : Instr} {s t : State} (h : exec i s = .next t) (hreset : Event.wdtReset ∈ t.out.events) :
    i.isTick = true ∧ s.vars.tickPending = true ∧ (s.vars.reloadCounter - 1#16) &&& 0x03ff#16 = 0x0000#16 ∧ s.vars.n = 1#2 := by
  obtain ⟨_, hevents⟩ := eventsAreExactlyTheseAndAtMostOne i s t h
  rw [hevents] at hreset
  cases i with
  | tick nr se =>
    simp only at hreset
    split at hreset
    · split at hreset
      next htimeout hsecond =>
        obtain ⟨hpend, hexpired⟩ := htimeout
        obtain ⟨hn, _⟩ := hsecond
        exact ⟨rfl, hpend, hexpired, hn⟩
      next => cases se <;> simp at hreset
    · exact absurd hreset List.not_mem_nil
  | wrDin v => simp at hreset
  | _ => exact absurd hreset List.not_mem_nil

/-- A tick that is not the last one of the second period emits no `WDT_RESET`. -/
theorem ResetAhead.no_wdtReset {b : Nat} {i : Instr} {s t : State} (h : ResetAhead b s) (hfew : i.isTick = true → 2 ≤ b)
    (hexec : exec i s = .next t) : Event.wdtReset ∉ t.out.events := by
  intro hreset
  obtain ⟨htick, hpend, hexpired, hn⟩ := second_timeout_of_wdtReset hexec hreset
  have hfar := h.running hpend
  rw [ticksToSecondTimeout, if_pos hn, h.counter_of_expired hpend hexpired] at hfar
  exact absurd (hfew htick) (by omega)

theorem ResetAhead.mono {b b' : Nat} {s : State} (h : ResetAhead b s) (hle : b' ≤ b) : ResetAhead b' s :=
  { h with two_periods := hle.trans h.two_periods, running := fun hpend => hle.trans (h.running hpend) }

/-- A tick takes one from the distance: it counts, or it ends the first period and the second is ahead. -/
theorem ResetAhead.after_tick {b : Nat} {nr se : Bool} {s t : State} (h : ResetAhead (b + 1) s) (hb : 1 ≤ b)
    (hexec : exec (.tick nr se) s = .next t) : ResetAhead b t := by
  have hsound := sound_exec h.toSound hexec
  have hless := h.mono (Nat.le_succ b)
  rcases tick_stages hexec with ⟨_, rfl⟩ | ⟨hpend, hcount, rfl⟩ | ⟨hpend, hexpired, _⟩
  · exact { hless with toSound := hsound }
  · have hmin := h.counter_min hpend
    have hmax := h.counter_max hpend
    have hfar := h.running hpend
    have hnotLast : s.vars.reloadCounter ≠ 1#16 := fun hone => hcount (by rw [hone]; rfl)
    have hdown : (s.vars.reloadCounter - 1#16).toNat + 1 = s.vars.reloadCounter.toNat := by bv_omega
    rw [ticksToSecondTimeout] at hfar
    exact { hless with
      toSound := hsound
      counter_min := fun _ => by bv_omega
      counter_max := fun _ => by simp only; omega
      running := fun _ => by simp only [ticksToSecondTimeout]; omega }
  · have hfar := h.running hpend
    rw [ticksToSecondTimeout, h.counter_of_expired hpend hexpired] at hfar
    have hn : s.vars.n = 0#2 := h.n_le_one.resolve_right fun hone => by
      rw [if_pos hone] at hfar
      omega
    have hlatch : s.vars.resetLatched = false :=
      eq_false_of_ne_true fun c => Bool.false_ne_true ((h.latched_idle c).symm.trans hpend)
    rw [exec_tick_first_timeout nr se hpend hlatch hn hexpired] at hexec
    cases hexec
    rw [hn, if_neg (by decide)] at hfar
    exact { hless with
      toSound := hsound
      stopped_n_zero := fun hidle => Bool.noConfusion (hidle.symm.trans hpend)
      counter_min := fun _ => Nat.le_of_succ_le h.timer_min
      counter_max := fun _ => Nat.le_refl _
      running := fun _ => by simp only [ticksToSecondTimeout]; omega }

theorem Sound.armable_of_pending {s : State} (h : Sound s) (htimer : 2 ≤ s.vars.timerValue.toNat)
    (hpend : s.vars.tickPending = true) : armable s.vars = true :=
  (armable_iff _).mpr
    ⟨eq_false_of_ne_true fun c => Bool.false_ne_true ((h.halted_idle c).symm.trans hpend), htimer⟩

/-- A write that leaves the block armable has loaded the counter. -/
theorem wrRld_loads {v : Word} {s t : State} (h : exec (.wrRld v) s = .next t) (harm : armable t.vars = true) :
    t.vars.reloadCounter = t.vars.timerValue := by
  rw [armable_after_wrRld h] at harm
  rw [exec_wrRld_armable v harm] at h
  cases h
  rfl

theorem wrCnt1_loads {v : Word} {s t : State} (h : exec (.wrCnt1 v) s = .next t) (harm : armable t.vars = true) :
    t.vars.reloadCounter = t.vars.timerValue := by
  rw [armable_after_wrCnt1 h] at harm
  rw [exec_wrCnt1_armable v harm] at h
  cases h
  rfl

theorem exec_keeps_timer {i : Instr} {s t : State} (h : exec i s = .next t) (htmr : ∀ v, i ≠ .wrTmr v) (hinit : i ≠ .init) :
    t.vars.timerValue = s.vars.timerValue := by
  obtain ⟨-, -, -, -, -, -, -, -, -, -, -, hrow, -⟩ := writeMatrixHolds i s t h hinit
  by_contra hne
  obtain ⟨v, rfl⟩ := hrow hne
  exact htmr v rfl

/-- A block whose first timeout is counted is running, and at most one period from the second. -/
theorem ResetAhead.one_period {b : Nat} {s : State} (h : ResetAhead b s) (hn : s.vars.n = 1#2) :
    b ≤ s.vars.timerValue.toNat := by
  have hpend : s.vars.tickPending = true := eq_true_of_ne_false fun hidle =>
    absurd (hn.symm.trans (h.stopped_n_zero hidle)) (by decide)
  have hfar := h.running hpend
  rw [ticksToSecondTimeout, if_pos hn] at hfar
  exact hfar.trans (h.counter_max hpend)

/-- A block that has just loaded its counter, if it runs at all: one period ahead, or two with no timeout counted. -/
theorem resetAhead_of_loaded {b : Nat} {t : State} (hsound : Sound t) (hmin : 2 ≤ t.vars.timerValue.toNat)
    (hmax : t.vars.timerValue.toNat ≤ 0x03ff) (htwo : b ≤ 2 * t.vars.timerValue.toNat)
    (hload : armable t.vars = true → t.vars.reloadCounter = t.vars.timerValue)
    (hcounted : t.vars.n = 1#2 → b ≤ t.vars.timerValue.toNat) (hstop : t.vars.tickPending = false → t.vars.n = 0#2) :
    ResetAhead b t := by
  have hloaded : t.vars.tickPending = true → t.vars.reloadCounter = t.vars.timerValue := fun hpend =>
    hload (hsound.armable_of_pending hmin hpend)
  refine { hsound with
    timer_min := hmin, timer_max := hmax, two_periods := htwo, stopped_n_zero := hstop,
    counter_min := fun hpend => ?_, counter_max := fun hpend => ?_, running := fun hpend => ?_ }
  · rw [hloaded hpend]
    omega
  · rw [hloaded hpend]
  · rw [ticksToSecondTimeout, hloaded hpend]
    split
    next hone => exact hcounted hone
    next => omega

/-- A kick puts two whole periods before the reset, whatever was counted before it. -/
theorem resetAhead_of_wrRld {b : Nat} {v : Word} {s t : State} (hsound : Sound s) (hmin : 2 ≤ s.vars.timerValue.toNat)
    (hmax : s.vars.timerValue.toNat ≤ 0x03ff) (htwo : b ≤ 2 * s.vars.timerValue.toNat)
    (hexec : exec (.wrRld v) s = .next t) : ResetAhead b t := by
  have htimer := exec_keeps_timer hexec nofun nofun
  have hn := wrRld_n hexec
  rw [← htimer] at hmin hmax htwo
  exact resetAhead_of_loaded (sound_exec hsound hexec) hmin hmax htwo (wrRld_loads hexec)
    (fun hone => absurd (hone.symm.trans hn) (by decide)) fun _ => hn

/-- A Control1 write that arms loads a period and keeps `n`; one that disarms clears it. -/
theorem ResetAhead.after_wrCnt1 {b : Nat} {v : Word} {s t : State} (h : ResetAhead b s)
    (hexec : exec (.wrCnt1 v) s = .next t) : ResetAhead b t := by
  have htimer := exec_keeps_timer hexec nofun nofun
  have hn := wrCnt1_n hexec
  refine resetAhead_of_loaded (sound_exec h.toSound hexec) (htimer ▸ h.timer_min) (htimer ▸ h.timer_max)
    (htimer ▸ h.two_periods) (wrCnt1_loads hexec) (fun hone => ?_) fun hidle => ?_ <;> split at hn
  · rw [htimer]
    exact h.one_period (hn.symm.trans hone)
  · exact absurd (hone.symm.trans hn) (by decide)
  next harm =>
    rw [tickPending_after_wrCnt1 hexec, harm, Bool.true_and, Bool.or_eq_false_iff] at hidle
    obtain ⟨hstopped, _⟩ := hidle
    exact hn.trans (h.stopped_n_zero hstopped)
  next => exact hn

/-- No operation but a tick, a `WR_TMR` or an `INIT` brings the second timeout nearer. -/
theorem ResetAhead.after_exec {b : Nat} {i : Instr} {s t : State} (h : ResetAhead b s) (htick : i.isTick = false)
    (htmr : ∀ v, i ≠ .wrTmr v) (hinit : i ≠ .init) (hexec : exec i s = .next t) : ResetAhead b t := by
  have hsound := sound_exec h.toSound hexec
  cases i with
  | rdRld | rdDin | rdDout | rdSts1 | rdSts2 | rdCnt1 | rdCnt2 | rdMsg1 | rdMsg2 | rdWdcnt | rdSwirq | rdTmr | rdUnmapped off
  | wrDin v | wrDout v | wrSts1 v | wrSts2 v | wrCnt2 v | wrMsg1 v | wrMsg2 v | wrWdcnt v | wrSwirq v | wrUnmapped off v =>
    cases hexec
    exact { h with toSound := hsound }
  | wrRld v => exact resetAhead_of_wrRld h.toSound h.timer_min h.timer_max h.two_periods hexec
  | wrCnt1 v => exact h.after_wrCnt1 hexec
  | tick nr se => exact Bool.noConfusion htick
  | wrTmr v => exact absurd rfl (htmr v)
  | init => exact absurd rfl hinit

theorem tickCount_cons (i : Instr) (ops : List Instr) : tickCount (i :: ops) = tickCount ops + if i.isTick then 1 else 0 :=
  List.countP_cons

/-- A sequence of fewer than `b` ticks emits no `WDT_RESET`. -/
theorem ResetAhead.no_wdtReset_of_run {ops : List Instr} {b : Nat} {s : State} (h : ResetAhead b s) (hkeeps : keepsTimer ops = true)
    (hfew : tickCount ops < b) : Event.wdtReset ∉ runEvents ops s := by
  induction ops generalizing b s with
  | nil => exact List.not_mem_nil
  | cons i rest ih =>
    obtain ⟨t, ht, _⟩ := exec_answers i s
    obtain ⟨htmr, hinit⟩ := ne_of_keepsTimer hkeeps List.mem_cons_self
    have hrest : keepsTimer rest = true := (Bool.and_eq_true _ _ ▸ hkeeps).2
    rw [tickCount_cons] at hfew
    have hnow : Event.wdtReset ∉ t.out.events :=
      h.no_wdtReset (fun htick => by rw [if_pos htick] at hfew; omega) ht
    have hlater : Event.wdtReset ∉ runEvents rest t := by
      cases htick : i.isTick
      · simp only [htick] at hfew
        exact ih (h.after_exec htick htmr hinit ht) hrest hfew
      · simp only [htick, if_true] at hfew
        cases i with
        | tick nr se =>
          obtain ⟨b, rfl⟩ : ∃ c, b = c + 1 := ⟨b - 1, by omega⟩
          exact ih (h.after_tick (by omega) ht) hrest (by omega)
        | _ => exact Bool.noConfusion htick
    rw [runEvents_cons ht, List.mem_append]
    exact not_or.mpr ⟨hnow, hlater⟩

/-- Settles O47: two periods lie ahead of a kick, and each tick takes one from them. -/
theorem noResetBeforeTwoFullPeriods : Obligations.NoResetBeforeTwoFullPeriods :=
  fun _ _ _ _ hsound _ hmin hmax hkick hkeeps hfew =>
    (resetAhead_of_wrRld hsound hmin hmax (Nat.le_refl _) hkick).no_wdtReset_of_run hkeeps hfew

/-! ## A silent guest (42 R165, R168): an interrupt after one period, the reset or another interrupt after two -/

/-- The ticks of a flag pair as a list of flags. -/
theorem ticks_eq_map (g : Nat) (nr se : Bool) :
    ticks g nr se = (List.replicate g (nr, se)).map (fun f => Instr.tick f.1 f.2) := by
  rw [List.map_replicate, ticks]

/-- A counter of 1 is at its last tick. -/
theorem expired_at_one : ((1#16 : Word) - 1#16) &&& 0x03ff#16 = 0x0000#16 := by decide

/-- One period of ticks: all but the last count the counter down to 1, and the last is the timeout. -/
theorem run_period (nr se : Bool) {k : Nat} {s : State} (hpend : s.vars.tickPending = true) (hk : 1 ≤ k) (hmax : k ≤ 0x03ff)
    (hcounter : s.vars.reloadCounter.toNat = k) :
    ∃ w : State, w.vars = { s.vars with reloadCounter := 1#16 } ∧ ∀ u : State, exec (.tick nr se) w = .next u →
      runEvents (ticks k nr se) s = u.out.events ∧ runState (ticks k nr se) s = u := by
  obtain ⟨g, rfl⟩ : ∃ g, k = g + 1 := ⟨k - 1, by omega⟩
  have hfew : (List.replicate g (nr, se)).length < ticksToExpiry s.vars.reloadCounter := by
    rw [List.length_replicate, ticksToExpiry_eq]
    bv_omega
  obtain ⟨hvars, hquiet⟩ := run_ticks_counting hpend hfew
  have hone : s.vars.reloadCounter - BitVec.ofNat 16 g = 1#16 := by bv_omega
  rw [← ticks_eq_map] at hvars hquiet
  rw [List.length_replicate, hone] at hvars
  have hsplit : ticks (g + 1) nr se = ticks g nr se ++ [.tick nr se] := List.replicate_succ'
  refine ⟨runState (ticks g nr se) s, hvars, fun u hu => ?_⟩
  rw [hsplit, runEvents_append, runState_append, hquiet, runEvents_cons hu, runState_cons hu]
  exact ⟨by simp, rfl⟩

/-- A period of ticks emits the event of its timeout and nothing else. -/
theorem run_period_events (nr se : Bool) {k : Nat} {s : State} (hpend : s.vars.tickPending = true) (hk : 1 ≤ k)
    (hmax : k ≤ 0x03ff) (hcounter : s.vars.reloadCounter.toNat = k) :
    runEvents (ticks k nr se) s = [timeoutEvent s.vars.n nr se] := by
  obtain ⟨w, hw, hlast⟩ := run_period nr se hpend hk hmax hcounter
  obtain ⟨u, hu, _⟩ := exec_answers (.tick nr se) w
  obtain ⟨hevents, _⟩ := hlast u hu
  have htimeout : w.vars.tickPending = true ∧ (w.vars.reloadCounter - 1#16) &&& 0x03ff#16 = 0x0000#16 := by
    rw [hw]
    exact ⟨hpend, expired_at_one⟩
  rw [hevents, tick_events hu, if_pos htimeout, hw]

/-- A first period of ticks counts one timeout and loads the next period. -/
theorem run_first_period (nr se : Bool) {k : Nat} {s : State} (hpend : s.vars.tickPending = true)
    (hlatch : s.vars.resetLatched = false) (hn : s.vars.n = 0#2) (hk : 1 ≤ k) (hmax : k ≤ 0x03ff)
    (hcounter : s.vars.reloadCounter.toNat = k) :
    (runState (ticks k nr se) s).vars =
      { s.vars with reloadCounter := s.vars.timerValue, status1 := s.vars.status1 ||| 0x0008#16, n := 1#2 } := by
  obtain ⟨w, hw, hlast⟩ := run_period nr se hpend hk hmax hcounter
  have hu := exec_tick_first_timeout nr se (s := w) (hw ▸ hpend) (hw ▸ hlatch) (hw ▸ hn) (hw ▸ expired_at_one)
  obtain ⟨_, hend⟩ := hlast _ hu
  rw [hend, hw]

/-- Two periods of ticks with `timer_value` loaded: an interrupt, and the event of a second timeout. -/
theorem run_two_periods (nr se nr' se' : Bool) {k : Nat} {s : State} (hpend : s.vars.tickPending = true)
    (hlatch : s.vars.resetLatched = false) (hn : s.vars.n = 0#2) (hk : 1 ≤ k) (hmax : k ≤ 0x03ff)
    (hcounter : s.vars.reloadCounter.toNat = k) (htimer : s.vars.timerValue.toNat = k) :
    runEvents (ticks k nr se ++ ticks k nr' se') s = [if se then .smi else .nmi, timeoutEvent 1#2 nr' se'] := by
  have hbetween := run_first_period nr se hpend hlatch hn hk hmax hcounter
  have hsecond := run_period_events nr' se' (s := runState (ticks k nr se) s) (hbetween ▸ hpend) hk hmax (hbetween ▸ htimer)
  rw [runEvents_append, run_period_events nr se hpend hk hmax hcounter, hsecond, hbetween, hn, timeoutEvent_first]
  rfl

/-- Settles O48: the kick loads the first period, the first timeout the second. -/
theorem silentGuestGetsInterruptThenReset : Obligations.SilentGuestGetsInterruptThenReset := by
  intro v s t nr se se' k hlatch hhalt htimer hmin hmax hkick
  have hk : 1 ≤ k := Nat.le_of_succ_le hmin
  rw [exec_wrRld_armed v ((armable_iff _).mpr ⟨hhalt, htimer ▸ hmin⟩) hlatch] at hkick
  obtain ⟨hpend, hlatch', hn, hcounter, htimer'⟩ : t.vars.tickPending = true ∧ t.vars.resetLatched = false ∧
      t.vars.n = 0#2 ∧ t.vars.reloadCounter.toNat = k ∧ t.vars.timerValue.toNat = k := by
    cases hkick
    exact ⟨rfl, hlatch, rfl, htimer, htimer⟩
  have htwo := fun nr' => run_two_periods nr se nr' se' hpend hlatch' hn hk hmax hcounter htimer'
  refine ⟨?_, ?_, ?_⟩
  · rw [run_period_events nr se hpend hk hmax hcounter, hn, timeoutEvent_first]
  · rw [htwo false, timeoutEvent_reset]
  · rw [htwo true, timeoutEvent_no_reboot]

end Sys2Proof.Machine

/-! PROOFS (spec chapter 60, exceptions). `WDT_RESET` is emitted at most once between two `INIT`s: each emission takes the latch, a
sound latched block emits none, and only `INIT` gives the latch back. -/

namespace Sys2Proof.Machine

/-! ## One `WDT_RESET` for each latch (60 R184, 42 R164) -/

/-- By V2 a block with a tick pending is not latched. -/
theorem Sound.unlatched_of_pending {s : State} (h : Sound s) (hpend : s.vars.tickPending = true) :
    s.vars.resetLatched = false :=
  eq_false_of_ne_true fun hlatch => Bool.false_ne_true ((h.latched_idle hlatch).symm.trans hpend)

/-- Whatever emits `WDT_RESET` is a second timeout without `no_reboot`, and that one latches. -/
theorem latched_of_wdtReset {i : Instr} {s t : State} (h : exec i s = .next t) (hreset : Event.wdtReset ∈ t.out.events) :
    t.vars.resetLatched = true := by
  obtain ⟨htick, hpend, hexpired, hn⟩ := second_timeout_of_wdtReset h hreset
  cases i with
  | tick nr se =>
    cases nr with
    | false =>
      rw [exec_tick_second_timeout_reset hpend hn hexpired se] at h
      cases h
      rfl
    | true =>
      rw [tick_events h, if_pos ⟨hpend, hexpired⟩, timeoutEvent_no_reboot] at hreset
      cases se <;> simp at hreset
  | _ => exact Bool.noConfusion htick

/-- The latch pays for the event: an operation emits at most as many `WDT_RESET`s as it raises the latch by. -/
theorem exec_wdtReset_count_add_latch_le {i : Instr} {s t : State} (h : Sound s) (hinit : i ≠ .init) (hexec : exec i s = .next t) :
    t.out.events.count .wdtReset + s.vars.resetLatched.toNat ≤ t.vars.resetLatched.toNat := by
  by_cases hreset : Event.wdtReset ∈ t.out.events
  · obtain ⟨_, hpend, _⟩ := second_timeout_of_wdtReset hexec hreset
    obtain ⟨hone, _⟩ := eventsAreExactlyTheseAndAtMostOne i s t hexec
    rw [h.unlatched_of_pending hpend, latched_of_wdtReset hexec hreset]
    exact List.count_le_length.trans hone
  · rw [List.count_eq_zero.mpr hreset, Nat.zero_add]
    exact Bool.toNat_le_toNat (exec_keeps_latch hexec hinit)

/-- Along a sequence without `INIT` the latch is raised once at most, so what is emitted and a latch set before add up to one. -/
theorem run_wdtReset_count_add_latch_le {ops : List Instr} {s : State} (h : Sound s) (hinit : ∀ i ∈ ops, i ≠ .init) :
    (runEvents ops s).count .wdtReset + s.vars.resetLatched.toNat ≤ 1 := by
  induction ops generalizing s with
  | nil => simpa using Bool.toNat_le s.vars.resetLatched
  | cons i rest ih =>
    obtain ⟨hfirst, hrest⟩ := List.forall_mem_cons.mp hinit
    obtain ⟨t, ht, _⟩ := exec_answers i s
    have hnow := exec_wdtReset_count_add_latch_le h hfirst ht
    have hlater := ih (sound_exec h ht) hrest
    rw [runEvents_cons ht, List.count_append]
    omega

/-- Settles O44: the count of a sequence with the latch before it is at most one, so it is 0 from a latched block. -/
theorem watchdogResetAtMostOncePerInit : Obligations.WatchdogResetAtMostOncePerInit := by
  intro ops s hsound hnoInit
  have hcount := run_wdtReset_count_add_latch_le hsound fun _ hi => ne_init_of_noInit hnoInit hi
  refine ⟨le_of_add_le_left hcount, fun hlatch => List.count_eq_zero.mp ?_⟩
  rw [hlatch, Bool.toNat_true] at hcount
  omega

end Sys2Proof.Machine

/-! PROOFS (spec chapter 70, reset and hazards). A block with no tick pending stays idle until a write arms it, and an idle block has
nothing to emit but the SMI of `WR_DIN`. -/

namespace Sys2Proof.Machine

/-! ## Nothing runs before the first arming (70 R211) -/

/-- Only `WR_RLD` and `WR_CNT1` end idleness: `INIT` and a stale tick leave no request either. -/
theorem exec_keeps_idle {i : Instr} {s t : State} (hnoArm : ∀ v, i ≠ .wrRld v ∧ i ≠ .wrCnt1 v) (h : exec i s = .next t)
    (hidle : s.vars.tickPending = false) : t.vars.tickPending = false := by
  refine eq_false_of_ne_true fun hpend => ?_
  obtain ⟨⟨v, hwrite⟩, _⟩ := arming_of_tickPending_set h hidle hpend
  obtain ⟨hrld, hcnt1⟩ := hnoArm v
  exact hwrite.elim hrld hcnt1

/-- With no tick pending there is no timeout, so the one event left is that of `WR_DIN`. -/
theorem eq_smi_of_idle {i : Instr} {s t : State} {e : Event} (h : exec i s = .next t) (hidle : s.vars.tickPending = false)
    (he : e ∈ t.out.events) : e = .smi := by
  obtain ⟨_, hevents⟩ := eventsAreExactlyTheseAndAtMostOne i s t h
  rw [hevents] at he
  cases i with
  | wrDin v => exact List.mem_singleton.mp he
  | tick nr se => simp [hidle] at he
  | _ => exact absurd he List.not_mem_nil

/-- A sequence that does not arm an idle block emits SMI at most. -/
theorem run_eq_smi_of_idle {ops : List Instr} {s : State} {e : Event} (hnoArm : ∀ i ∈ ops, ∀ v, i ≠ .wrRld v ∧ i ≠ .wrCnt1 v)
    (hidle : s.vars.tickPending = false) (he : e ∈ runEvents ops s) : e = .smi := by
  induction ops generalizing s with
  | nil => exact absurd he List.not_mem_nil
  | cons i rest ih =>
    obtain ⟨hfirst, hrest⟩ := List.forall_mem_cons.mp hnoArm
    obtain ⟨t, ht, _⟩ := exec_answers i s
    rw [runEvents_cons ht, List.mem_append] at he
    rcases he with hnow | hlater
    · exact eq_smi_of_idle ht hidle hnow
    · exact ih hrest (exec_keeps_idle hfirst ht hidle) hlater

/-- Settles O35: the reset state is idle, and no sequence without an arming write ends that. -/
theorem nothingRunsBeforeFirstArming : Obligations.NothingRunsBeforeFirstArming := by
  refine ⟨rfl, rfl, fun ops hops => ?_⟩
  have hnoArm : ∀ i ∈ ops, ∀ v, i ≠ .wrRld v ∧ i ≠ .wrCnt1 v := fun i hi v =>
    (hops v).imp (ne_of_mem_of_not_mem hi) (ne_of_mem_of_not_mem hi)
  have hidle : (runState ops State.reset).vars.tickPending = false :=
    runState_keeps (P := fun s => s.vars.tickPending = false)
      (fun i hi _ _ hs hexec => exec_keeps_idle (hnoArm i hi) hexec hs) rfl
  exact ⟨hidle, fun nr se => exec_tick_stale nr se hidle,
    fun hnmi => Event.noConfusion (run_eq_smi_of_idle hnoArm rfl hnmi),
    fun hreset => Event.noConfusion (run_eq_smi_of_idle hnoArm rfl hreset)⟩

end Sys2Proof.Machine
